-- ==== Sys2Proof/Word.lean ====
section
/-! DEFINITION. The machine's word types: a byte (u8) and a 16-bit word (u16), spec 00_scope.md R5 and R7.
Their arithmetic is BitVec's own, which wraps modulo 2^8 and 2^16 as R9 says. -/

namespace Sys2Proof

/-- A u8: a general register, a byte of memory, an I/O register (00_scope.md R5, R7). -/
abbrev Byte := BitVec 8

/-- A u16: PC, SP, a register pair, an address (00_scope.md R5, R7). -/
abbrev Word := BitVec 16

end Sys2Proof
end

