-- ==== Sys2Proof/Machine/Bits.lean ====
section
/-! DEFINITION. The bit-field, byte-order and sign-extension helpers that the decoder, the operand forms and the
devices share (spec 00_scope.md R7, 20_memory.md R80, 30_encoding.md R117). -/

namespace Sys2Proof.Machine

/-- `v[15:8]` of a u16 (R7): the first-named register of a pair (10_state.md R22). -/
def hiByte (v : Word) : Byte := v.extractLsb' 8 8

/-- `v[7:0]` of a u16 (R7). -/
def loByte (v : Word) : Byte := v.extractLsb' 0 8

/-- `hi:lo`, the u16 `hi * 256 + lo` (R7). -/
def joinBytes (hi lo : Byte) : Word := hi ++ lo

/-- `sext_16(v)`: the two's-complement extension of a u8 to a u16 (R7; the operand `s8` of R117). -/
def sext16 (v : Byte) : Word := v.signExtend 16

/-- The address `0xFF00 + n` of the high page (R117, 43_load.md R213 to R216). -/
def highPage (n : Byte) : Word := joinBytes 0xFF#8 n

/-- Bit `n` of a byte as a Boolean, `v[n]` (R7). -/
def bitOf (v : Byte) (n : Nat) : Bool := v.getLsbD n

end Sys2Proof.Machine
end

