-- ==== Sys2Proof/Config.lean ====
section
/-! DEFINITION. What is fixed for this hardware: the constants of spec 00_scope.md R5 and the byte that a memory
cell nothing has written reads as (RAM_INIT of R6). The parameters of R6 that differ between launches (ROM, CART_TYPE,
BOOT, RAM_INIT, HALT_BUG, the host's inputs) are no constants: they are the fields of `Launch` in Machine/State.lean.
The spec leaves no result undefined (93_implementation_defined.md: "Nothing in the source is called "undefined" or
"unpredictable""), so there is no free value. -/

namespace Sys2Proof.Config

/-- What an unlisted memory cell reads as: RAM_INIT's default, all zero (R6, decision D27; assumption log 2). -/
abbrev unlistedByte : Byte := 0x00#8

/-- Dots, that is T-cycles, of one scanline (R5). -/
abbrev dotsPerLine : Nat := 456

/-- Scanlines of one frame, the ten of VBlank among them (R5). -/
abbrev linesPerFrame : Nat := 154

/-- Visible scanlines of one frame (R5). -/
abbrev visibleLines : Nat := 144

/-- T-cycles of one frame (R5, R316). -/
abbrev dotsPerFrame : Nat := 70224

/-- Length of mode 2, OAM scan (R5): the dot at which the scan is made and mode 3 begins (R310). -/
abbrev scanDots : Nat := 80

/-- Length of mode 3, drawing, DRAW_DOTS (R5, decision D36). -/
abbrev drawDots : Nat := 172

/-- Pixels of one line (R5). -/
abbrev screenWidth : Nat := 160

/-- Sprites kept for one line (R5). -/
abbrev spritesPerLine : Nat := 10

/-- Sprite entries of OAM (R5). -/
abbrev oamEntries : Nat := 40

/-- Sizes of the memories in bytes (R5). -/
abbrev vramSize : Nat := 8192
abbrev wramSize : Nat := 8192
abbrev oamSize : Nat := 160
abbrev hramSize : Nat := 127
abbrev cramSize : Nat := 32768
abbrev bootSize : Nat := 256
abbrev bankSize : Nat := 16384

/-- T-cycles of an interrupt dispatch (R5, R282). -/
abbrev dispatchCycles : Nat := 20

/-- T-cycles of an idle step while halted (R281, decision D5). -/
abbrev idleCycles : Nat := 4

end Sys2Proof.Config
end

