-- ==== Sys2Proof/Machine/State.lean ====
section
/-! DEFINITION. The machine's state as plain data: every piece of state of spec 10_state.md (R20 to R42), the launch
parameters of 00_scope.md R6 and the model's own step counters; the reasons a step can stop; and the state after reset
(10_state.md R50, 70_reset_and_hazards.md R400 to R403). -/

namespace Sys2Proof.Machine

/-- A byte memory as a list of (index, byte) pairs in one canonical form (`Memory.wf` in Machine/Memory.lean): indexes
strictly rising, no entry equal to `Config.unlistedByte`, which is what an unlisted index reads as (assumption log 2). -/
abbrev Memory := List Host.Cell

/-- A 2-bit shade 0..3 after palette mapping (00_scope.md R12). -/
abbrev Shade := BitVec 2

/-- A frame buffer: 144 rows of 160 shades (10_state.md R37). -/
abbrev Frame := Vector (Vector Shade 160) 144

/-- The frame buffer with every cell 0 (10_state.md R50). -/
def Frame.blank : Frame := Vector.replicate 144 (Vector.replicate 160 0#2)

/-- The CPU: registers (R20 to R24) and control state (R25 to R30). -/
structure Cpu where
  /-- Accumulator A (R20). -/
  a : Byte
  /-- Flags F: Z, N, Hf, Cy in bits 7..4, bits 3..0 zero (R21). -/
  f : Byte
  b : Byte
  c : Byte
  d : Byte
  e : Byte
  h : Byte
  l : Byte
  /-- Stack pointer (R24). -/
  sp : Word
  /-- Program counter (R23). -/
  pc : Word
  /-- Interrupt master enable (R25). -/
  ime : Bool
  /-- The pending-enable latch of EI (R26). -/
  imePending : Bool
  /-- Halted (R27). -/
  halted : Bool
  /-- Sticky: an undefined opcode has been executed (R29). -/
  illegalSeen : Bool
  /-- The most recent undefined opcode executed (R29). -/
  illegalOp : Byte
  /-- The HALT-bug latch (R30); used only when HALT_BUG is true. -/
  haltBugLatch : Bool
  deriving DecidableEq, Repr

/-- The interrupt controller (R31, R32). -/
structure Interrupts where
  /-- IE, 0xFFFF: all 8 bits stored (R31). -/
  ie : Byte
  /-- IF, 0xFF0F: 5 bits stored (R32). -/
  flags : BitVec 5
  deriving DecidableEq, Repr

/-- The timer (R33). -/
structure Timer where
  /-- The 16-bit counter whose high byte is DIV. -/
  divCounter : Word
  tima : Byte
  tma : Byte
  tac : BitVec 3
  deriving DecidableEq, Repr

/-- The joypad register and its edge detector (R34). -/
structure Joypad where
  /-- The host's latest snapshot, bit = 1 pressed: Right, Left, Up, Down, A, B, Select, Start from bit 0 (R382). -/
  buttons : Byte
  /-- `p1_sel`: P1 bits 5 and 4 as stored. -/
  sel : BitVec 2
  /-- `p1_prev`: P1[3:0] as last computed. -/
  prev : BitVec 4
  deriving DecidableEq, Repr

/-- The PPU's mode (R37): 0 HBlank, 1 VBlank, 2 OAM scan, 3 drawing. -/
inductive PpuMode where
  | hblank
  | vblank
  | oamScan
  | drawing
  deriving DecidableEq, Repr

/-- An entry of the sprite scratch list (R37): OAM index 0..39 and the four bytes of the entry (R308). -/
structure Sprite where
  index : Nat
  y : Byte
  x : Byte
  tile : Byte
  attr : Byte
  deriving DecidableEq, Repr

/-- The picture processing unit: registers (R36), internal state (R37), video memories (R38). -/
structure Ppu where
  lcdc : Byte
  /-- STAT bits 6..3 (R302). -/
  statEn : BitVec 4
  scy : Byte
  scx : Byte
  lyc : Byte
  /-- DMA: the last value written (R306). -/
  dma : Byte
  bgp : Byte
  obp0 : Byte
  obp1 : Byte
  wy : Byte
  wx : Byte
  mode : PpuMode
  /-- The current scanline, 0..153. -/
  ly : Nat
  /-- The dot within the scanline, 0..455. -/
  lx : Nat
  /-- At most ten entries, in increasing index. -/
  sprites : List Sprite
  /-- The internal window line counter. -/
  windowLine : Nat
  /-- The remembered level of the STAT interrupt line. -/
  statLinePrev : Bool
  fb : Frame
  out : Frame
  frameReady : Bool
  /-- VRAM[0..8191], at bus addresses 0x8000-0x9FFF. -/
  vram : Memory
  /-- OAM[0..159], at bus addresses 0xFE00-0xFE9F. -/
  oam : Memory
  deriving DecidableEq, Repr

/-- CART_TYPE (R6, R84). -/
inductive CartType where
  | romOnly
  | mbc3
  deriving DecidableEq, Repr

/-- The five RTC registers 0x08..0x0C (R39, R89). -/
structure RtcRegs where
  seconds : Byte
  minutes : Byte
  hours : Byte
  dayLow : Byte
  dayHigh : Byte
  deriving DecidableEq, Repr

/-- All five RTC registers 0x00: their reset value (R50) and the current value of a clock that does not advance (R89). -/
def RtcRegs.zero : RtcRegs := ⟨0x00#8, 0x00#8, 0x00#8, 0x00#8, 0x00#8⟩

/-- The cartridge: its image and type, fixed for a launch (R6, R84), and the MBC3's state (R39). -/
structure Cartridge where
  cartType : CartType
  /-- NBANKS, the number of 16 KiB banks of the image (R84). -/
  banks : Nat
  /-- ROM, the cartridge image (R84); no step writes it. -/
  rom : Memory
  /-- `rom_bank`, 1..127. -/
  romBank : BitVec 7
  /-- `ram_bank`: 0..3 a RAM bank, 0x08..0x0C an RTC register. -/
  ramBank : Byte
  ramEnable : Bool
  rtcLatchPrev : Byte
  rtcLatched : RtcRegs
  /-- CRAM[0..32767]. -/
  cram : Memory
  deriving DecidableEq, Repr

/-- What the host does between machine steps (R289). -/
inductive HostAction where
  /-- `SetButtons(b)`: a new button snapshot. -/
  | setButtons (b : Byte)
  /-- The host takes the frame: it clears `frame_ready`. -/
  | takeFrame
  deriving DecidableEq, Repr

/-- A host event tagged with the index of the machine step before which it occurs (R289; assumption log 13). -/
structure HostEvent where
  before : Nat
  action : HostAction
  deriving DecidableEq, Repr

/-- The whole machine. -/
structure State where
  cpu : Cpu
  intr : Interrupts
  timer : Timer
  joypad : Joypad
  ppu : Ppu
  cart : Cartridge
  /-- WRAM[0..8191], at 0xC000-0xDFFF and its echo (R38). -/
  wram : Memory
  /-- HRAM[0..126], at 0xFF80-0xFFFE (R38). -/
  hram : Memory
  /-- The boot-overlay latch (R35). -/
  bootOn : Bool
  /-- BOOT, the 256 bytes of the overlay (R6); never read while `bootOn` is false. -/
  boot : Memory
  /-- The launch parameter HALT_BUG (R6, R30). -/
  haltBug : Bool
  /-- The host's inputs still to come, in order (R6, R289). -/
  inputs : List HostEvent
  /-- How many machine steps have run: the index that tags the host's events (assumption log 13). -/
  stepIndex : Nat
  /-- The T-cycle count that the last CPU step returned (R280, R286, R40; assumption log 9). -/
  cycles : Nat
  deriving DecidableEq, Repr

/-- Why a step faults. It never does: "No access fails" (20_memory.md R65), there are no synchronous exceptions
(60_exceptions.md R358), and no rule is partial (93_implementation_defined.md). No constructor, so nobody raises one. -/
inductive Fault where
  deriving DecidableEq, Repr

/-- Why a step gives no meaning. -/
inductive Refusal where
  /-- An instruction that has no meaning yet, by its mnemonic. Raised by a refused arm of `exec` only; there is none,
  so nobody raises it. Safe: the machine would stop where the hardware goes on. -/
  | notModelled (mnemonic : String)
  deriving DecidableEq, Repr

/-- What a meaning and a step answer. -/
abbrev Result := Host.Outcome State Fault Refusal

/-- The launch parameters (00_scope.md R6). SKIP_BOOT is not a field: it is true when BOOT is absent. RAM_INIT is the
five initial memories. -/
structure Launch where
  cartType : CartType
  banks : Nat
  rom : Memory
  /-- BOOT, or absent. -/
  boot : Option Memory
  haltBug : Bool
  vram : Memory
  wram : Memory
  oam : Memory
  hram : Memory
  cram : Memory
  inputs : List HostEvent
  deriving DecidableEq, Repr

/-- A 32 KiB plain-ROM cartridge whose bytes are all 0x00, no boot overlay, every parameter at R6's default
(assumption log 1; the conventions of 95_test_vectors.md use the same cartridge). -/
def Launch.default : Launch where
  cartType := .romOnly
  banks := 2
  rom := []
  boot := none
  haltBug := false
  vram := []
  wram := []
  oam := []
  hram := []
  cram := []
  inputs := []

/-- The cartridge of a launch, with the MBC3's state at its reset values: the rows of R50 are the same in both forms. -/
def Cartridge.ofLaunch (l : Launch) : Cartridge where
  cartType := l.cartType
  banks := l.banks
  rom := l.rom
  romBank := 1#7
  ramBank := 0x00#8
  ramEnable := false
  rtcLatchPrev := 0xFF#8
  rtcLatched := RtcRegs.zero
  cram := l.cram

/-- The PPU right after the LCD has been switched on at the first dot of a frame, or off with every register 0x00:
what the two columns of R50 share. -/
def Ppu.ofLaunch (l : Launch) (lcdc bgp : Byte) (mode : PpuMode) : Ppu where
  lcdc := lcdc
  statEn := 0#4
  scy := 0x00#8
  scx := 0x00#8
  lyc := 0x00#8
  dma := 0xFF#8
  bgp := bgp
  obp0 := 0xFF#8
  obp1 := 0xFF#8
  wy := 0x00#8
  wx := 0x00#8
  mode := mode
  ly := 0
  lx := 0
  sprites := []
  windowLine := 0
  statLinePrev := false
  fb := Frame.blank
  out := Frame.blank
  frameReady := false
  vram := l.vram
  oam := l.oam

/-- The joypad at reset, both forms of R50. -/
def Joypad.atReset : Joypad := ⟨0x00#8, 0#2, 0xF#4⟩

/-- Power-on with the boot overlay: R401 and the first column of R50 (assumption logs 3 and 4). -/
def State.powerOn (l : Launch) (boot : Memory) : State where
  cpu :=
    { a := 0x00#8, f := 0x00#8, b := 0x00#8, c := 0x00#8, d := 0x00#8, e := 0x00#8, h := 0x00#8, l := 0x00#8
      sp := 0x0000#16, pc := 0x0000#16, ime := false, imePending := false, halted := false
      illegalSeen := false, illegalOp := 0x00#8, haltBugLatch := false }
  intr := ⟨0x00#8, 0#5⟩
  timer := ⟨0x0000#16, 0x00#8, 0x00#8, 0#3⟩
  joypad := Joypad.atReset
  ppu := Ppu.ofLaunch l 0x00#8 0x00#8 .hblank
  cart := Cartridge.ofLaunch l
  wram := l.wram
  hram := l.hram
  bootOn := true
  boot := boot
  haltBug := l.haltBug
  inputs := l.inputs
  stepIndex := 0
  cycles := 0

/-- Skip-boot, the post-boot state: R402 and the second column of R50 (assumption logs 3 and 4). -/
def State.skipBoot (l : Launch) : State where
  cpu :=
    { a := 0x01#8, f := 0xB0#8, b := 0x00#8, c := 0x13#8, d := 0x00#8, e := 0xD8#8, h := 0x01#8, l := 0x4D#8
      sp := 0xFFFE#16, pc := 0x0100#16, ime := false, imePending := false, halted := false
      illegalSeen := false, illegalOp := 0x00#8, haltBugLatch := false }
  intr := ⟨0x00#8, 0x01#5⟩
  timer := ⟨0xABCC#16, 0x00#8, 0x00#8, 0#3⟩
  joypad := Joypad.atReset
  ppu := Ppu.ofLaunch l 0x91#8 0xFC#8 .oamScan
  cart := Cartridge.ofLaunch l
  wram := l.wram
  hram := l.hram
  bootOn := false
  boot := []
  haltBug := l.haltBug
  inputs := l.inputs
  stepIndex := 0
  cycles := 0

/-- The state a launch creates (R400): power-on when BOOT is given, skip-boot when it is absent. -/
def State.start (l : Launch) : State :=
  match l.boot with
  | some boot => State.powerOn l boot
  | none => State.skipBoot l

/-- The machine right after reset: the default launch (assumption log 1), which is skip-boot (R402). -/
def State.reset : State := State.start Launch.default

end Sys2Proof.Machine
end

