-- ==== Sys2Proof/Machine/Memory.lean ====
section
/-! DEFINITION. Reading and writing one byte of a memory held as a canonical list of cells, and the canonical form
itself (assumption log 2). Every byte array of spec 10_state.md R38, R39 and the images ROM and BOOT of 00_scope.md R6
are held so. -/

namespace Sys2Proof.Machine

/-- The byte at index `k`: the listed one, or the byte an unlisted index reads as. -/
def Memory.read : Memory → Nat → Byte
  | [], _ => Config.unlistedByte
  | (k', v') :: rest, k => if k = k' then v' else Memory.read rest k

/-- Put `v` at index `k`, keeping the canonical form: a cell that would hold the unlisted byte is not listed. -/
def Memory.write : Memory → Nat → Byte → Memory
  | [], k, v => if v = Config.unlistedByte then [] else [(k, v)]
  | (k', v') :: rest, k, v =>
    if k < k' then
      if v = Config.unlistedByte then (k', v') :: rest else (k, v) :: (k', v') :: rest
    else if k = k' then
      if v = Config.unlistedByte then rest else (k, v) :: rest
    else (k', v') :: Memory.write rest k v

/-- Put the bytes `vs` at the indexes `k`, `k + 1`, … -/
def Memory.writeAll : Memory → Nat → List Byte → Memory
  | m, _, [] => m
  | m, k, v :: vs => Memory.writeAll (Memory.write m k v) (k + 1) vs

/-- The canonical form from index `lo` on: indexes strictly rising, below `size`, and no entry the unlisted byte. -/
def Memory.wfFrom (size : Nat) : Nat → Memory → Bool
  | _, [] => true
  | lo, (k, v) :: rest => decide (lo ≤ k) && decide (k < size) && decide (v ≠ Config.unlistedByte) && Memory.wfFrom size (k + 1) rest

/-- The canonical form of a memory of `size` bytes. -/
def Memory.wf (size : Nat) (m : Memory) : Bool := Memory.wfFrom size 0 m

/-- The length of a ROM image of `banks` 16 KiB banks (20_memory.md R84). -/
def romSize (banks : Nat) : Nat := Config.bankSize * banks

/-- Every memory of a state is in canonical form. -/
def State.memoryWf (s : State) : Bool :=
  Memory.wf Config.vramSize s.ppu.vram && Memory.wf Config.oamSize s.ppu.oam
    && Memory.wf Config.wramSize s.wram && Memory.wf Config.hramSize s.hram
    && Memory.wf Config.cramSize s.cart.cram && Memory.wf (romSize s.cart.banks) s.cart.rom
    && Memory.wf Config.bootSize s.boot

/-- CART_TYPE from the header byte 0x0147 (R84): none for a byte that is neither plain ROM nor MBC3. -/
def cartTypeOf (code : Byte) : Option CartType :=
  if code = 0x00#8 then some .romOnly
  else if 0x0F ≤ code.toNat ∧ code.toNat ≤ 0x13 then some .mbc3
  else none

/-- Is `n` a power of two? (R84: an image is 32 KiB times a power of two.) -/
def isPowerOfTwo (n : Nat) : Bool := decide (n ≠ 0 ∧ n = 2 ^ n.log2)

/-- The launch of a cartridge image (R6, R84, decision D37): none, no machine is constructed, for an image that is too
small, has a length that is not 32 KiB times a power of two, or an unrecognised type byte; and BOOT, when given, is
256 bytes (R6). -/
def Launch.ofImage (image : List Byte) (boot : Option (List Byte)) (haltBug : Bool) : Option Launch :=
  let banks := image.length / Config.bankSize
  if image.length = romSize banks ∧ 2 ≤ banks ∧ isPowerOfTwo banks ∧ (boot.all fun b => b.length = Config.bootSize) then
    match cartTypeOf (image.getD 0x0147 Config.unlistedByte) with
    | some t =>
      some { Launch.default with
        cartType := t
        banks := banks
        rom := Memory.writeAll [] 0 image
        boot := boot.map (Memory.writeAll [] 0)
        haltBug := haltBug }
    | none => none
  else none

end Sys2Proof.Machine
end

