-- ==== Sys2Proof/Machine/Cart.lean ====
section
/-! DEFINITION. The cartridge port: plain ROM and MBC3 (spec 20_memory.md R84 to R91). -/

namespace Sys2Proof.Machine

/-- `RomBankRead(a)` for `a` in 0x4000-0x7FFF: R85 for plain ROM, R87 for MBC3. -/
def romBankRead (k : Cartridge) (a : Nat) : Byte :=
  match k.cartType with
  | .romOnly => Memory.read k.rom a
  | .mbc3 => Memory.read k.rom (k.romBank.toNat % k.banks * 0x4000 + (a - 0x4000))

/-- `CartRegWrite(a, v)` for `a` in 0x0000-0x7FFF: nothing on plain ROM (R85); on MBC3 the RAM enable (R86), the ROM
bank (R87), the RAM bank or RTC select (R88), the RTC latch (R89). -/
def cartRegWrite (k : Cartridge) (a : Nat) (v : Byte) : Cartridge :=
  match k.cartType with
  | .romOnly => k
  | .mbc3 =>
    if a ≤ 0x1FFF then { k with ramEnable := decide (v &&& 0x0F#8 = 0x0A#8) }
    else if a ≤ 0x3FFF then
      { k with romBank := if v &&& 0x7F#8 = 0x00#8 then 1#7 else v.setWidth 7 }
    else if a ≤ 0x5FFF then
      if v.toNat ≤ 0x03 ∨ (0x08 ≤ v.toNat ∧ v.toNat ≤ 0x0C) then { k with ramBank := v } else k
    else
      { k with
        rtcLatched := if k.rtcLatchPrev = 0x00#8 ∧ v = 0x01#8 then RtcRegs.zero else k.rtcLatched
        rtcLatchPrev := v }

/-- `rtc_latched[code]` for the codes 0x08..0x0C (R89, R90). Any other code is out of R88's range and no run selects one;
it reads 0xFF, what R65 gives an invalid region (assumption log 18). -/
def RtcRegs.read (r : RtcRegs) (code : Byte) : Byte :=
  if code = 0x08#8 then r.seconds
  else if code = 0x09#8 then r.minutes
  else if code = 0x0A#8 then r.hours
  else if code = 0x0B#8 then r.dayLow
  else if code = 0x0C#8 then r.dayHigh
  else 0xFF#8

/-- The index in CRAM of the address `a` in 0xA000-0xBFFF under the selected RAM bank (R90, R91). -/
def cramIndex (k : Cartridge) (a : Nat) : Nat := k.ramBank.toNat * 0x2000 + (a - 0xA000)

/-- `CartRamRead(a)` for `a` in 0xA000-0xBFFF: 0xFF on plain ROM (R85); R90 on MBC3. -/
def cartRamRead (k : Cartridge) (a : Nat) : Byte :=
  match k.cartType with
  | .romOnly => 0xFF#8
  | .mbc3 =>
    if !k.ramEnable then 0xFF#8
    else if k.ramBank.toNat ≤ 3 then Memory.read k.cram (cramIndex k a)
    else k.rtcLatched.read k.ramBank

/-- `CartRamWrite(a, v)` for `a` in 0xA000-0xBFFF: nothing on plain ROM (R85); R91 on MBC3. -/
def cartRamWrite (k : Cartridge) (a : Nat) (v : Byte) : Cartridge :=
  match k.cartType with
  | .romOnly => k
  | .mbc3 =>
    if k.ramEnable && decide (k.ramBank.toNat ≤ 3) then
      { k with cram := Memory.write k.cram (cramIndex k a) v }
    else k

end Sys2Proof.Machine
end

