-- ==== Sys2Proof/Machine/Timer.lean ====
section
/-! DEFINITION. The interrupt controller's request protocol (spec 60_exceptions.md R350 to R353) and the timer
(R370 to R374). -/

namespace Sys2Proof.Machine

/-- The five interrupt sources in priority order (R353, R355). -/
inductive Source where
  | vblank
  | lcdStat
  | timer
  | serial
  | joypad
  deriving DecidableEq, Repr

/-- The bit index of a source in IE and IF (R31, R353). -/
def Source.bit : Source → Nat
  | .vblank => 0
  | .lcdStat => 1
  | .timer => 2
  | .serial => 3
  | .joypad => 4

/-- The fixed handler address `0x0040 + 8 * i` (R282, R353). -/
def Source.vector (i : Source) : Word := BitVec.ofNat 16 (0x0040 + 8 * i.bit)

/-- The mask `1 << i` of a source in IF. -/
def Source.mask (i : Source) : BitVec 5 := BitVec.ofNat 5 (2 ^ i.bit)

/-- A device's request: `IF <- IF | (1 << i)` (R350). -/
def State.request (s : State) (i : Source) : State :=
  { s with intr := { s.intr with flags := s.intr.flags ||| i.mask } }

/-- `pend = IE & IF & 0x1F` (49_machine_step.md R281): bits 5..7 of IE take no part (R351). -/
def State.pend (s : State) : BitVec 5 := s.intr.ie.setWidth 5 &&& s.intr.flags

/-- The pending source to dispatch: the lowest set bit (R282, R355). Used only when `pend` is not zero. -/
def highestPriority (pend : BitVec 5) : Source :=
  if pend.getLsbD 0 then .vblank
  else if pend.getLsbD 1 then .lcdStat
  else if pend.getLsbD 2 then .timer
  else if pend.getLsbD 3 then .serial
  else .joypad

/-- The tap bit of `div_counter` that TAC[1:0] selects: 00, 01, 10, 11 give 9, 3, 5, 7 (R372, R373). -/
def tapBit (tac : BitVec 3) : Nat :=
  match tac.toNat % 4 with
  | 0 => 9
  | 1 => 3
  | 2 => 5
  | _ => 7

/-- TAC[2], the count enable (R372). -/
def timerEnabled (tac : BitVec 3) : Bool := tac.getLsbD 2

/-- `TimaIncrement()` (R374): on overflow TIMA is loaded from TMA and the Timer interrupt is requested. -/
def timaIncrement (s : State) : State :=
  if s.timer.tima = 0xFF#8 then
    ({ s with timer := { s.timer with tima := s.timer.tma } }).request .timer
  else
    { s with timer := { s.timer with tima := s.timer.tima + 1#8 } }

/-- `TimerCycle()` (R373): TIMA counts the falling edges of the tap bit. -/
def timerCycle (s : State) : State :=
  let old := s.timer.divCounter
  let new := old + 1#16
  let s' := { s with timer := { s.timer with divCounter := new } }
  let b := tapBit s.timer.tac
  if timerEnabled s.timer.tac && old.getLsbD b && !new.getLsbD b then timaIncrement s' else s'

/-- `TimerTick(c)` (R373): `c` timer cycles, one at a time (49_machine_step.md R287). -/
def timerTick (c : Nat) (s : State) : State := timerCycle^[c] s

end Sys2Proof.Machine
end

