-- ==== Sys2Proof/Machine/Joypad.lean ====
section
/-! DEFINITION. The joypad register P1 and its interrupt (spec 60_exceptions.md R380 to R383). -/

namespace Sys2Proof.Machine

/-- `P1Low()` (R380): the inverted buttons of the exposed groups; a select bit exposes its group when it is 0. -/
def p1Low (j : Joypad) : BitVec 4 :=
  (if j.sel.getLsbD 0 then 0xF#4 else ~~~(j.buttons.extractLsb' 0 4))
    &&& (if j.sel.getLsbD 1 then 0xF#4 else ~~~(j.buttons.extractLsb' 4 4))

/-- `IoRead(0xFF00)` (R380): `0xC0 | p1_sel << 4 | P1Low()`. -/
def p1Read (j : Joypad) : Byte := 0b11#2 ++ j.sel ++ p1Low j

/-- `JoypadUpdate()` (R381): a bit of the exposed nibble that falls requests the Joypad interrupt. -/
def joypadUpdate (s : State) : State :=
  let low := p1Low s.joypad
  let s' := if s.joypad.prev &&& ~~~low = 0#4 then s else s.request .joypad
  { s' with joypad := { s'.joypad with prev := low } }

/-- `IoWrite(0xFF00, v)` (R381): only bits 5 and 4 are stored. -/
def p1Write (v : Byte) (s : State) : State :=
  joypadUpdate { s with joypad := { s.joypad with sel := v.extractLsb' 4 2 } }

/-- `SetButtons(b)`, the host event (R381, 49_machine_step.md R289). -/
def setButtons (b : Byte) (s : State) : State :=
  joypadUpdate { s with joypad := { s.joypad with buttons := b } }

end Sys2Proof.Machine
end

