-- ==== Sys2Proof/Machine/Ppu.lean ====
section
/-! DEFINITION. The picture processing unit (spec 48_ppu.md): its registers as the CPU reads and writes them (R301 to
R306), the access windows (R315), the dot machine (R310 to R314), LCD off and on (R320), the OAM scan (R325) and the
rendering of one line (R326 to R330). OAM DMA (R340) reads through the bus and stands in Machine/Bus.lean. -/

namespace Sys2Proof.Machine

/-- The two mode bits of STAT (R302): 0 HBlank, 1 VBlank, 2 OAM scan, 3 drawing. -/
def PpuMode.code : PpuMode → BitVec 2
  | .hblank => 0#2
  | .vblank => 1#2
  | .oamScan => 2#2
  | .drawing => 3#2

/-- LCDC[7], LCD enable (R301). -/
def lcdOn (p : Ppu) : Bool := bitOf p.lcdc 7

/-- `ly` as the byte that LY reads and LYC is compared with (R303, R304). -/
def lyByte (p : Ppu) : Byte := BitVec.ofNat 8 p.ly

/-- The coincidence `ly = LYC` (R302, R314), compared as numbers. -/
def coincidence (p : Ppu) : Bool := decide (p.ly = p.lyc.toNat)

/-- `IoRead(0xFF41)` (R302): `0x80 | stat_en << 3 | coincidence << 2 | mode`. -/
def statRead (p : Ppu) : Byte := 1#1 ++ p.statEn ++ BitVec.ofBool (coincidence p) ++ p.mode.code

/-- `VramBlocked()` (20_memory.md R62, R315). -/
def vramBlocked (p : Ppu) : Bool := lcdOn p && decide (p.mode = .drawing)

/-- `OamBlocked()` (20_memory.md R62, R315). -/
def oamBlocked (p : Ppu) : Bool := lcdOn p && (decide (p.mode = .oamScan) || decide (p.mode = .drawing))

/-- The PPU put at the first dot of a line 0 in mode `m` (R320). -/
def Ppu.restart (p : Ppu) (m : PpuMode) : Ppu :=
  { p with ly := 0, lx := 0, mode := m, windowLine := 0, sprites := [], statLinePrev := false }

/-- `IoWrite(0xFF40, v)` (R301, R320): a change of bit 7 stops or starts the PPU. -/
def lcdcWrite (v : Byte) (p : Ppu) : Ppu :=
  let p' := { p with lcdc := v }
  if lcdOn p && !lcdOn p' then p'.restart .hblank
  else if !lcdOn p && lcdOn p' then p'.restart .oamScan
  else p'

/-- `IoWrite(0xFF41, v)` (R302): only bits 6..3 are stored. -/
def statWrite (v : Byte) (p : Ppu) : Ppu := { p with statEn := v.extractLsb' 3 4 }

/-- `Shade(P, i)`: bits `2i+1..2i` of the palette (R305). -/
def shadeOf (palette : Byte) (i : BitVec 2) : Shade := palette.extractLsb' (2 * i.toNat) 2

/-- `V(a)`, the VRAM byte at a bus address (R307); the PPU's own reads are never blocked (R300). -/
def vramAt (p : Ppu) (a : Nat) : Byte := Memory.read p.vram (a - 0x8000)

/-- The colour index at bit `n` of a tile row's two bytes (R307, R327). -/
def colourIndex (b0 b1 : Byte) (n : Nat) : BitVec 2 := BitVec.ofBool (bitOf b1 n) ++ BitVec.ofBool (bitOf b0 n)

/-- `TileIndexAt(M, px, py)` (R327). -/
def tileIndexAt (p : Ppu) (map px py : Nat) : Byte := vramAt p (map + 32 * (py / 8) + px / 8)

/-- The address of a background or window tile (R307, R327): LCDC[4] selects unsigned from 0x8000 or signed from
0x9000, where `0x9000 + 16 * sext(t)` is `0x9000 + 16 * t`, less 0x1000 when t is above 127. -/
def tileAddress (p : Ppu) (t : Byte) : Nat :=
  if bitOf p.lcdc 4 then 0x8000 + 16 * t.toNat
  else if t.toNat ≤ 127 then 0x9000 + 16 * t.toNat
  else 0x9000 + 16 * t.toNat - 0x1000

/-- `TilePixel(t, px, py)` (R327). -/
def tilePixel (p : Ppu) (t : Byte) (px py : Nat) : BitVec 2 :=
  let row := tileAddress p t + 2 * (py % 8)
  colourIndex (vramAt p row) (vramAt p (row + 1)) (7 - px % 8)

/-- The base of the tile map that a bit of LCDC selects: 0x9800 or 0x9C00 (R301). -/
def mapBase (p : Ppu) (bit : Nat) : Nat := if bitOf p.lcdc bit then 0x9C00 else 0x9800

/-- `WindowCovers(X)` (R329). -/
def windowCovers (p : Ppu) (x : Nat) : Bool :=
  bitOf p.lcdc 5 && decide (p.ly ≥ p.wy.toNat) && decide (x + 7 ≥ p.wx.toNat)

/-- `BgWindowIndex(X)` (R328, R329). -/
def bgWindowIndex (p : Ppu) (x : Nat) : BitVec 2 :=
  if !bitOf p.lcdc 0 then 0#2
  else if windowCovers p x then
    let px := x + 7 - p.wx.toNat
    tilePixel p (tileIndexAt p (mapBase p 6) px p.windowLine) px p.windowLine
  else
    let px := (x + p.scx.toNat) % 256
    let py := (p.ly + p.scy.toNat) % 256
    tilePixel p (tileIndexAt p (mapBase p 3) px py) px py

/-- `window_drawn` after a line (R326, R328, R329): some pixel of the line is a window pixel. -/
def windowDrawn (p : Ppu) : Bool :=
  bitOf p.lcdc 0 && (List.range Config.screenWidth).any (windowCovers p)

/-- The height of sprites, LCDC[2] (R301). -/
def spriteHeight (p : Ppu) : Nat := if bitOf p.lcdc 2 then 16 else 8

/-- OAM entry `i` (R308). -/
def oamEntry (p : Ppu) (i : Nat) : Sprite where
  index := i
  y := Memory.read p.oam (4 * i)
  x := Memory.read p.oam (4 * i + 1)
  tile := Memory.read p.oam (4 * i + 2)
  attr := Memory.read p.oam (4 * i + 3)

/-- Does a sprite's Y range contain `ly`? (R325: on integers, no wrap.) -/
def spriteOnLine (p : Ppu) (s : Sprite) : Bool :=
  decide (s.y.toNat ≤ p.ly + 16) && decide (p.ly + 16 < s.y.toNat + spriteHeight p)

/-- `OamScan()` (R325): the first ten matching entries in OAM order. -/
def oamScan (p : Ppu) : Ppu :=
  { p with
    sprites := (((List.range Config.oamEntries).map (oamEntry p)).filter (spriteOnLine p)).take Config.spritesPerLine }

/-- The colour index of a selected sprite at screen column `x`, or none where it does not overlap, its row is outside
the height current now, or the pixel is transparent (R330). -/
def spriteIndexAt (p : Ppu) (x : Nat) (s : Sprite) : Option (BitVec 2) :=
  let h := spriteHeight p
  let col := x + 8 - s.x.toNat
  let row := p.ly + 16 - s.y.toNat
  if x + 8 < s.x.toNat ∨ col > 7 then none
  else if row ≥ h then none
  else
    let row' := if bitOf s.attr 6 then h - 1 - row else row
    let tile := if h = 16 then (s.tile &&& 0xFE#8).toNat + row' / 8 else s.tile.toNat
    let adr := 0x8000 + 16 * tile + 2 * (row' % 8)
    let n := if bitOf s.attr 5 then col else 7 - col
    let idx := colourIndex (vramAt p adr) (vramAt p (adr + 1)) n
    if idx = 0#2 then none else some idx

/-- The winning candidate so far: the sprite and its colour index (`best` of R330). -/
abbrev Candidate := Option (Sprite × BitVec 2)

/-- One turn of R330's loop: a smaller X wins, a tie keeps the lower OAM index. -/
def betterSprite (p : Ppu) (x : Nat) (best : Candidate) (s : Sprite) : Candidate :=
  match spriteIndexAt p x s with
  | none => best
  | some idx =>
    match best with
    | none => some (s, idx)
    | some (b, i) => if s.x.toNat < b.x.toNat then some (s, idx) else some (b, i)

/-- `SpritePixel(X, bgidx)` (R330): none, or a shade. -/
def spritePixel (p : Ppu) (x : Nat) (bgidx : BitVec 2) : Option Shade :=
  if !bitOf p.lcdc 1 then none
  else
    match p.sprites.foldl (betterSprite p x) none with
    | none => none
    | some (s, idx) =>
      if bitOf s.attr 7 && decide (bgidx ≠ 0#2) then none
      else some (shadeOf (if bitOf s.attr 4 then p.obp1 else p.obp0) idx)

/-- The shade of screen column `x` of the line `ly` (R326). -/
def linePixel (p : Ppu) (x : Nat) : Shade :=
  let bgidx := bgWindowIndex p x
  (spritePixel p x bgidx).getD (shadeOf p.bgp bgidx)

/-- `RenderLine()` (R326): the 160 pixels of the line `ly`; the window line counter advances if the window was drawn. -/
def renderLine (p : Ppu) : Ppu :=
  { p with
    fb := p.fb.setIfInBounds p.ly (Vector.ofFn fun x : Fin 160 => linePixel p x.val)
    windowLine := if windowDrawn p then p.windowLine + 1 else p.windowLine }

/-- What `VBlankEntry()` does inside the PPU (R313); the request is made by `ppuDot`. -/
def vblankEntry (p : Ppu) : Ppu := { p with mode := .vblank, out := p.fb, frameReady := true }

/-- The body of `PpuDot()` before the STAT line, with `lx` already advanced (R310). -/
def ppuAdvance (p : Ppu) : Ppu :=
  if p.ly < Config.visibleLines then
    if p.lx = Config.scanDots then { oamScan p with mode := .drawing }
    else if p.lx = Config.scanDots + Config.drawDots then { renderLine p with mode := .hblank }
    else if p.lx = Config.dotsPerLine then
      let p' := { p with lx := 0, ly := p.ly + 1 }
      if p'.ly = Config.visibleLines then vblankEntry p' else { p' with mode := .oamScan }
    else p
  else if p.lx = Config.dotsPerLine then
    let p' := { p with lx := 0, ly := p.ly + 1 }
    if p'.ly = Config.linesPerFrame then { p' with ly := 0, mode := .oamScan, windowLine := 0 } else p'
  else p

/-- Does the dot with `lx` already advanced enter VBlank? (R310, R313) -/
def entersVblank (p : Ppu) : Bool := decide (p.ly + 1 = Config.visibleLines) && decide (p.lx = Config.dotsPerLine)

/-- The level of the STAT interrupt line (R314): the OR of the enabled sources. -/
def statLine (p : Ppu) : Bool :=
  (p.statEn.getLsbD 3 && coincidence p)
    || (p.statEn.getLsbD 2 && decide (p.mode = .oamScan))
    || (p.statEn.getLsbD 1 && decide (p.mode = .vblank))
    || (p.statEn.getLsbD 0 && decide (p.mode = .hblank))

/-- `StatLineUpdate()` (R314): a rising edge of the line requests LCDSTAT. -/
def statLineUpdate (s : State) : State :=
  let line := statLine s.ppu
  let s' := if line && !s.ppu.statLinePrev then s.request .lcdStat else s
  { s' with ppu := { s'.ppu with statLinePrev := line } }

/-- `PpuDot()` (R310): nothing moves while the LCD is off (R320). -/
def ppuDot (s : State) : State :=
  if !lcdOn s.ppu then s
  else
    let p := { s.ppu with lx := s.ppu.lx + 1 }
    let s' := { s with ppu := ppuAdvance p }
    statLineUpdate (if entersVblank p then s'.request .vblank else s')

/-- `PpuTick(c)` (R310): `c` dots, one at a time (49_machine_step.md R287). -/
def ppuTick (c : Nat) (s : State) : State := ppuDot^[c] s

end Sys2Proof.Machine
end

