-- ==== Sys2Proof/Machine/Bus.lean ====
section
/-! DEFINITION. The bus: address decoding, the CPU's byte read and byte write, the I/O registers, the OAM DMA
(spec 20_memory.md R60 to R66, R75 to R78; 10_state.md R41; 48_ppu.md R340). Total: no access fails (R65). -/

namespace Sys2Proof.Machine

/-- `IoRead(a)` for `a` in 0xFF00-0xFF7F (R75, R41): 0xFF for 0xFF50 (R78) and for an unlisted address (R77). -/
def ioRead (s : State) (a : Nat) : Byte :=
  match a with
  | 0xFF00 => p1Read s.joypad
  | 0xFF04 => hiByte s.timer.divCounter
  | 0xFF05 => s.timer.tima
  | 0xFF06 => s.timer.tma
  | 0xFF07 => 0b11111#5 ++ s.timer.tac
  | 0xFF0F => 0b111#3 ++ s.intr.flags
  | 0xFF40 => s.ppu.lcdc
  | 0xFF41 => statRead s.ppu
  | 0xFF42 => s.ppu.scy
  | 0xFF43 => s.ppu.scx
  | 0xFF44 => lyByte s.ppu
  | 0xFF45 => s.ppu.lyc
  | 0xFF46 => s.ppu.dma
  | 0xFF47 => s.ppu.bgp
  | 0xFF48 => s.ppu.obp0
  | 0xFF49 => s.ppu.obp1
  | 0xFF4A => s.ppu.wy
  | 0xFF4B => s.ppu.wx
  | _ => 0xFF#8

/-- The rows of the address table (R61); the boot overlay is the lowest 256 bytes of `rom0`. -/
inductive Region where
  | rom0
  | romN
  | vram
  | cartRam
  | wram
  | echo
  | oam
  | prohibited
  | io
  | hram
  | ie
  deriving DecidableEq, Repr

/-- The row of R61 that an address number selects. -/
def regionOf (a : Nat) : Region :=
  if a ≤ 0x3FFF then .rom0
  else if a ≤ 0x7FFF then .romN
  else if a ≤ 0x9FFF then .vram
  else if a ≤ 0xBFFF then .cartRam
  else if a ≤ 0xDFFF then .wram
  else if a ≤ 0xFDFF then .echo
  else if a ≤ 0xFE9F then .oam
  else if a ≤ 0xFEFF then .prohibited
  else if a ≤ 0xFF7F then .io
  else if a ≤ 0xFFFE then .hram
  else .ie

/-- The bus read at the address number `a` with the two access windows given: R62's table, of which `memRead` and
`rawRead` are the two uses. -/
def busRead (s : State) (vramClosed oamClosed : Bool) (a : Nat) : Byte :=
  match regionOf a with
  | .rom0 => if a ≤ 0x00FF ∧ s.bootOn then Memory.read s.boot a else Memory.read s.cart.rom a
  | .romN => romBankRead s.cart a
  | .vram => if vramClosed then 0xFF#8 else Memory.read s.ppu.vram (a - 0x8000)
  | .cartRam => cartRamRead s.cart a
  | .wram => Memory.read s.wram (a - 0xC000)
  | .echo => Memory.read s.wram (a - 0xE000)
  | .oam => if oamClosed then 0xFF#8 else Memory.read s.ppu.oam (a - 0xFE00)
  | .prohibited => 0xFF#8
  | .io => ioRead s a
  | .hram => Memory.read s.hram (a - 0xFF80)
  | .ie => s.intr.ie

/-- `MemRead(a, 1)` (R62): the CPU's read, for data and for instruction fetch (R98). -/
def memRead (s : State) (addr : Word) : Byte := busRead s (vramBlocked s.ppu) (oamBlocked s.ppu) addr.toNat

/-- `RawRead(a)` (R64): the DMA's read, which the access windows do not stop. -/
def rawRead (s : State) (addr : Word) : Byte := busRead s false false addr.toNat

/-- Put `v` in the cell `i` of OAM. -/
def oamPut (s : State) (i : Nat) (v : Byte) : State :=
  { s with ppu := { s.ppu with oam := Memory.write s.ppu.oam i v } }

/-- `IoWrite(0xFF46, v)` (48_ppu.md R340): the register, then the 160 bytes in order. -/
def oamDma (v : Byte) (s : State) : State :=
  (List.range Config.oamSize).foldl
    (fun t i => oamPut t i (rawRead t (joinBytes v 0x00#8 + BitVec.ofNat 16 i)))
    { s with ppu := { s.ppu with dma := v } }

/-- `IoWrite(a, v)` for `a` in 0xFF00-0xFF7F (R76, R41): LY ignores a write (48_ppu.md R304), so does an unlisted
address (R77). -/
def ioWrite (s : State) (a : Nat) (v : Byte) : State :=
  match a with
  | 0xFF00 => p1Write v s
  | 0xFF04 => { s with timer := { s.timer with divCounter := 0x0000#16 } }
  | 0xFF05 => { s with timer := { s.timer with tima := v } }
  | 0xFF06 => { s with timer := { s.timer with tma := v } }
  | 0xFF07 => { s with timer := { s.timer with tac := v.setWidth 3 } }
  | 0xFF0F => { s with intr := { s.intr with flags := v.setWidth 5 } }
  | 0xFF40 => { s with ppu := lcdcWrite v s.ppu }
  | 0xFF41 => { s with ppu := statWrite v s.ppu }
  | 0xFF42 => { s with ppu := { s.ppu with scy := v } }
  | 0xFF43 => { s with ppu := { s.ppu with scx := v } }
  | 0xFF45 => { s with ppu := { s.ppu with lyc := v } }
  | 0xFF46 => oamDma v s
  | 0xFF47 => { s with ppu := { s.ppu with bgp := v } }
  | 0xFF48 => { s with ppu := { s.ppu with obp0 := v } }
  | 0xFF49 => { s with ppu := { s.ppu with obp1 := v } }
  | 0xFF4A => { s with ppu := { s.ppu with wy := v } }
  | 0xFF4B => { s with ppu := { s.ppu with wx := v } }
  | 0xFF50 => if v = 0x00#8 then s else { s with bootOn := false }
  | _ => s

/-- The bus write at the address number `a` (R63): a closed window drops the write (decision D13); a write below 0x8000
goes to the cartridge's bank controller whether or not the boot overlay is on. -/
def busWrite (s : State) (a : Nat) (v : Byte) : State :=
  match regionOf a with
  | .rom0 => { s with cart := cartRegWrite s.cart a v }
  | .romN => { s with cart := cartRegWrite s.cart a v }
  | .vram =>
    if vramBlocked s.ppu then s
    else { s with ppu := { s.ppu with vram := Memory.write s.ppu.vram (a - 0x8000) v } }
  | .cartRam => { s with cart := cartRamWrite s.cart a v }
  | .wram => { s with wram := Memory.write s.wram (a - 0xC000) v }
  | .echo => { s with wram := Memory.write s.wram (a - 0xE000) v }
  | .oam => if oamBlocked s.ppu then s else oamPut s (a - 0xFE00) v
  | .prohibited => s
  | .io => ioWrite s a v
  | .hram => { s with hram := Memory.write s.hram (a - 0xFF80) v }
  | .ie => { s with intr := { s.intr with ie := v } }

/-- `MemWrite(a, 1, v)` (R63), the CPU's write. -/
def memWrite (s : State) (addr : Word) (v : Byte) : State := busWrite s addr.toNat v

end Sys2Proof.Machine
end

