-- ==== Sys2Proof/Syntax.lean ====
section
/-! DEFINITION. The instruction set as data: the operand names of spec 30_encoding.md R113 to R116 and `Instr`, one
constructor per row of spec/opcode_table.json (512: 256 first bytes, 256 CB sub-opcodes). Register numbers, pairs,
conditions, bit numbers and RST targets are part of the opcode and so of the constructor; only immediates are
arguments. A constructor's name is its row's mnemonic with `m` before an operand in memory: `ld_b_mhl` is `LD B,(HL)`,
`ld_mhli_a` is `LD (HL+),A`. -/

namespace Sys2Proof

/-- The 8-bit registers that have an operand code (R113). F has none. -/
inductive Reg8 where
  | b | c | d | e | h | l | a
  deriving DecidableEq, Repr

/-- An 8-bit location `r` of R113: a register, or code 6, the byte at HL. -/
inductive Loc8 where
  | reg (r : Reg8)
  | mhl
  deriving DecidableEq, Repr

/-- The operand `x` of the two-operand ALU instructions (40_alu8.md R142). -/
inductive Operand8 where
  | loc (x : Loc8)
  | imm (d8 : Byte)
  deriving DecidableEq, Repr

/-- The pairs `rp[p]` (R114). -/
inductive Rp where
  | bc | de | hl | sp
  deriving DecidableEq, Repr

/-- The pairs `rp2[p]` of PUSH and POP (R114). -/
inductive Rp2 where
  | bc | de | hl | af
  deriving DecidableEq, Repr

/-- The conditions `cc` (R115). -/
inductive Cond where
  | nz | z | nc | c
  deriving DecidableEq, Repr

/-- The operations `alu[y]` (R116). -/
inductive AluOp where
  | add | adc | sub | sbc | and | xor | or | cp
  deriving DecidableEq, Repr

/-- The operations `rot[y]` (R116). -/
inductive RotOp where
  | rlc | rrc | rl | rr | sla | sra | swap | srl
  deriving DecidableEq, Repr

/-- A field value 0..7: a bit number, or the index of an RST target (R117). -/
inductive Index8 where
  | i0 | i1 | i2 | i3 | i4 | i5 | i6 | i7
  deriving DecidableEq, Repr

/-- The number of an index. -/
def Index8.toNat : Index8 → Nat
  | .i0 => 0
  | .i1 => 1
  | .i2 => 2
  | .i3 => 3
  | .i4 => 4
  | .i5 => 5
  | .i6 => 6
  | .i7 => 7

/-- The instruction formats (R110). -/
inductive Format where
  | f1 | f2 | f2s | f3 | fcb
  deriving DecidableEq, Repr

/-- The length in bytes of a format (R110). -/
def Format.length : Format → Nat
  | .f1 => 1
  | .f2 => 2
  | .f2s => 2
  | .f3 => 3
  | .fcb => 2

/-- The instructions. `d8`, `s8`, `a8`, `d16`, `a16` are the immediates of R117; `pad` is STOP's ignored second byte
(45_system.md R262); `cb` is the sub-opcode that follows the prefix (45_system.md R265): the words of `prefix_cb cb` are
those of the CB instruction `cb`, and the decoder gives that one (assumption log 7). The constructors
with an operand stand first: Lean's compiler allows fields only to the first constructors of so long a type. -/
inductive Instr where
  /-- 0x01: LD BC,d16 (R219). -/
  | ld_bc_d16 (d16 : Word)
  /-- 0x06: LD B,d8 (R201). -/
  | ld_b_d8 (d8 : Byte)
  /-- 0x08: LD (a16),SP (R220). -/
  | ld_ma16_sp (a16 : Word)
  /-- 0x0E: LD C,d8 (R201). -/
  | ld_c_d8 (d8 : Byte)
  /-- 0x10: STOP (R262). -/
  | stop (pad : Byte)
  /-- 0x11: LD DE,d16 (R219). -/
  | ld_de_d16 (d16 : Word)
  /-- 0x16: LD D,d8 (R201). -/
  | ld_d_d8 (d8 : Byte)
  /-- 0x18: JR s8 (R246). -/
  | jr_s8 (s8 : Byte)
  /-- 0x1E: LD E,d8 (R201). -/
  | ld_e_d8 (d8 : Byte)
  /-- 0x20: JR NZ,s8 (R247). -/
  | jr_nz_s8 (s8 : Byte)
  /-- 0x21: LD HL,d16 (R219). -/
  | ld_hl_d16 (d16 : Word)
  /-- 0x26: LD H,d8 (R201). -/
  | ld_h_d8 (d8 : Byte)
  /-- 0x28: JR Z,s8 (R247). -/
  | jr_z_s8 (s8 : Byte)
  /-- 0x2E: LD L,d8 (R201). -/
  | ld_l_d8 (d8 : Byte)
  /-- 0x30: JR NC,s8 (R247). -/
  | jr_nc_s8 (s8 : Byte)
  /-- 0x31: LD SP,d16 (R219). -/
  | ld_sp_d16 (d16 : Word)
  /-- 0x36: LD (HL),d8 (R204). -/
  | ld_mhl_d8 (d8 : Byte)
  /-- 0x38: JR C,s8 (R247). -/
  | jr_c_s8 (s8 : Byte)
  /-- 0x3E: LD A,d8 (R201). -/
  | ld_a_d8 (d8 : Byte)
  /-- 0xC2: JP NZ,a16 (R244). -/
  | jp_nz_a16 (a16 : Word)
  /-- 0xC3: JP a16 (R243). -/
  | jp_a16 (a16 : Word)
  /-- 0xC4: CALL NZ,a16 (R249). -/
  | call_nz_a16 (a16 : Word)
  /-- 0xC6: ADD A,d8 (R145). -/
  | add_a_d8 (d8 : Byte)
  /-- 0xCA: JP Z,a16 (R244). -/
  | jp_z_a16 (a16 : Word)
  /-- 0xCB: PREFIX CB (R265). -/
  | prefix_cb (cb : Byte)
  /-- 0xCC: CALL Z,a16 (R249). -/
  | call_z_a16 (a16 : Word)
  /-- 0xCD: CALL a16 (R248). -/
  | call_a16 (a16 : Word)
  /-- 0xCE: ADC A,d8 (R146). -/
  | adc_a_d8 (d8 : Byte)
  /-- 0xD2: JP NC,a16 (R244). -/
  | jp_nc_a16 (a16 : Word)
  /-- 0xD4: CALL NC,a16 (R249). -/
  | call_nc_a16 (a16 : Word)
  /-- 0xD6: SUB d8 (R147). -/
  | sub_d8 (d8 : Byte)
  /-- 0xDA: JP C,a16 (R244). -/
  | jp_c_a16 (a16 : Word)
  /-- 0xDC: CALL C,a16 (R249). -/
  | call_c_a16 (a16 : Word)
  /-- 0xDE: SBC A,d8 (R148). -/
  | sbc_a_d8 (d8 : Byte)
  /-- 0xE0: LDH (a8),A (R213). -/
  | ldh_ma8_a (a8 : Byte)
  /-- 0xE6: AND d8 (R149). -/
  | and_d8 (d8 : Byte)
  /-- 0xE8: ADD SP,s8 (R173). -/
  | add_sp_s8 (s8 : Byte)
  /-- 0xEA: LD (a16),A (R217). -/
  | ld_ma16_a (a16 : Word)
  /-- 0xEE: XOR d8 (R150). -/
  | xor_d8 (d8 : Byte)
  /-- 0xF0: LDH A,(a8) (R214). -/
  | ldh_a_ma8 (a8 : Byte)
  /-- 0xF6: OR d8 (R151). -/
  | or_d8 (d8 : Byte)
  /-- 0xF8: LD HL,SP+s8 (R174). -/
  | ld_hl_sp_s8 (s8 : Byte)
  /-- 0xFA: LD A,(a16) (R218). -/
  | ld_a_ma16 (a16 : Word)
  /-- 0xFE: CP d8 (R152). -/
  | cp_d8 (d8 : Byte)
  /-- 0x00: NOP (R260). -/
  | nop
  /-- 0x02: LD (BC),A (R207). -/
  | ld_mbc_a
  /-- 0x03: INC BC (R171). -/
  | inc_bc
  /-- 0x04: INC B (R143). -/
  | inc_b
  /-- 0x05: DEC B (R144). -/
  | dec_b
  /-- 0x07: RLCA (R180). -/
  | rlca
  /-- 0x09: ADD HL,BC (R170). -/
  | add_hl_bc
  /-- 0x0A: LD A,(BC) (R205). -/
  | ld_a_mbc
  /-- 0x0B: DEC BC (R172). -/
  | dec_bc
  /-- 0x0C: INC C (R143). -/
  | inc_c
  /-- 0x0D: DEC C (R144). -/
  | dec_c
  /-- 0x0F: RRCA (R181). -/
  | rrca
  /-- 0x12: LD (DE),A (R208). -/
  | ld_mde_a
  /-- 0x13: INC DE (R171). -/
  | inc_de
  /-- 0x14: INC D (R143). -/
  | inc_d
  /-- 0x15: DEC D (R144). -/
  | dec_d
  /-- 0x17: RLA (R182). -/
  | rla
  /-- 0x19: ADD HL,DE (R170). -/
  | add_hl_de
  /-- 0x1A: LD A,(DE) (R206). -/
  | ld_a_mde
  /-- 0x1B: DEC DE (R172). -/
  | dec_de
  /-- 0x1C: INC E (R143). -/
  | inc_e
  /-- 0x1D: DEC E (R144). -/
  | dec_e
  /-- 0x1F: RRA (R183). -/
  | rra
  /-- 0x22: LD (HL+),A (R211). -/
  | ld_mhli_a
  /-- 0x23: INC HL (R171). -/
  | inc_hl
  /-- 0x24: INC H (R143). -/
  | inc_h
  /-- 0x25: DEC H (R144). -/
  | dec_h
  /-- 0x27: DAA (R153). -/
  | daa
  /-- 0x29: ADD HL,HL (R170). -/
  | add_hl_hl
  /-- 0x2A: LD A,(HL+) (R209). -/
  | ld_a_mhli
  /-- 0x2B: DEC HL (R172). -/
  | dec_hl
  /-- 0x2C: INC L (R143). -/
  | inc_l
  /-- 0x2D: DEC L (R144). -/
  | dec_l
  /-- 0x2F: CPL (R154). -/
  | cpl
  /-- 0x32: LD (HL-),A (R212). -/
  | ld_mhld_a
  /-- 0x33: INC SP (R171). -/
  | inc_sp
  /-- 0x34: INC (HL) (R143). -/
  | inc_mhl
  /-- 0x35: DEC (HL) (R144). -/
  | dec_mhl
  /-- 0x37: SCF (R155). -/
  | scf
  /-- 0x39: ADD HL,SP (R170). -/
  | add_hl_sp
  /-- 0x3A: LD A,(HL-) (R210). -/
  | ld_a_mhld
  /-- 0x3B: DEC SP (R172). -/
  | dec_sp
  /-- 0x3C: INC A (R143). -/
  | inc_a
  /-- 0x3D: DEC A (R144). -/
  | dec_a
  /-- 0x3F: CCF (R156). -/
  | ccf
  /-- 0x40: LD B,B (R200). -/
  | ld_b_b
  /-- 0x41: LD B,C (R200). -/
  | ld_b_c
  /-- 0x42: LD B,D (R200). -/
  | ld_b_d
  /-- 0x43: LD B,E (R200). -/
  | ld_b_e
  /-- 0x44: LD B,H (R200). -/
  | ld_b_h
  /-- 0x45: LD B,L (R200). -/
  | ld_b_l
  /-- 0x46: LD B,(HL) (R202). -/
  | ld_b_mhl
  /-- 0x47: LD B,A (R200). -/
  | ld_b_a
  /-- 0x48: LD C,B (R200). -/
  | ld_c_b
  /-- 0x49: LD C,C (R200). -/
  | ld_c_c
  /-- 0x4A: LD C,D (R200). -/
  | ld_c_d
  /-- 0x4B: LD C,E (R200). -/
  | ld_c_e
  /-- 0x4C: LD C,H (R200). -/
  | ld_c_h
  /-- 0x4D: LD C,L (R200). -/
  | ld_c_l
  /-- 0x4E: LD C,(HL) (R202). -/
  | ld_c_mhl
  /-- 0x4F: LD C,A (R200). -/
  | ld_c_a
  /-- 0x50: LD D,B (R200). -/
  | ld_d_b
  /-- 0x51: LD D,C (R200). -/
  | ld_d_c
  /-- 0x52: LD D,D (R200). -/
  | ld_d_d
  /-- 0x53: LD D,E (R200). -/
  | ld_d_e
  /-- 0x54: LD D,H (R200). -/
  | ld_d_h
  /-- 0x55: LD D,L (R200). -/
  | ld_d_l
  /-- 0x56: LD D,(HL) (R202). -/
  | ld_d_mhl
  /-- 0x57: LD D,A (R200). -/
  | ld_d_a
  /-- 0x58: LD E,B (R200). -/
  | ld_e_b
  /-- 0x59: LD E,C (R200). -/
  | ld_e_c
  /-- 0x5A: LD E,D (R200). -/
  | ld_e_d
  /-- 0x5B: LD E,E (R200). -/
  | ld_e_e
  /-- 0x5C: LD E,H (R200). -/
  | ld_e_h
  /-- 0x5D: LD E,L (R200). -/
  | ld_e_l
  /-- 0x5E: LD E,(HL) (R202). -/
  | ld_e_mhl
  /-- 0x5F: LD E,A (R200). -/
  | ld_e_a
  /-- 0x60: LD H,B (R200). -/
  | ld_h_b
  /-- 0x61: LD H,C (R200). -/
  | ld_h_c
  /-- 0x62: LD H,D (R200). -/
  | ld_h_d
  /-- 0x63: LD H,E (R200). -/
  | ld_h_e
  /-- 0x64: LD H,H (R200). -/
  | ld_h_h
  /-- 0x65: LD H,L (R200). -/
  | ld_h_l
  /-- 0x66: LD H,(HL) (R202). -/
  | ld_h_mhl
  /-- 0x67: LD H,A (R200). -/
  | ld_h_a
  /-- 0x68: LD L,B (R200). -/
  | ld_l_b
  /-- 0x69: LD L,C (R200). -/
  | ld_l_c
  /-- 0x6A: LD L,D (R200). -/
  | ld_l_d
  /-- 0x6B: LD L,E (R200). -/
  | ld_l_e
  /-- 0x6C: LD L,H (R200). -/
  | ld_l_h
  /-- 0x6D: LD L,L (R200). -/
  | ld_l_l
  /-- 0x6E: LD L,(HL) (R202). -/
  | ld_l_mhl
  /-- 0x6F: LD L,A (R200). -/
  | ld_l_a
  /-- 0x70: LD (HL),B (R203). -/
  | ld_mhl_b
  /-- 0x71: LD (HL),C (R203). -/
  | ld_mhl_c
  /-- 0x72: LD (HL),D (R203). -/
  | ld_mhl_d
  /-- 0x73: LD (HL),E (R203). -/
  | ld_mhl_e
  /-- 0x74: LD (HL),H (R203). -/
  | ld_mhl_h
  /-- 0x75: LD (HL),L (R203). -/
  | ld_mhl_l
  /-- 0x76: HALT (R261). -/
  | halt
  /-- 0x77: LD (HL),A (R203). -/
  | ld_mhl_a
  /-- 0x78: LD A,B (R200). -/
  | ld_a_b
  /-- 0x79: LD A,C (R200). -/
  | ld_a_c
  /-- 0x7A: LD A,D (R200). -/
  | ld_a_d
  /-- 0x7B: LD A,E (R200). -/
  | ld_a_e
  /-- 0x7C: LD A,H (R200). -/
  | ld_a_h
  /-- 0x7D: LD A,L (R200). -/
  | ld_a_l
  /-- 0x7E: LD A,(HL) (R202). -/
  | ld_a_mhl
  /-- 0x7F: LD A,A (R200). -/
  | ld_a_a
  /-- 0x80: ADD A,B (R145). -/
  | add_a_b
  /-- 0x81: ADD A,C (R145). -/
  | add_a_c
  /-- 0x82: ADD A,D (R145). -/
  | add_a_d
  /-- 0x83: ADD A,E (R145). -/
  | add_a_e
  /-- 0x84: ADD A,H (R145). -/
  | add_a_h
  /-- 0x85: ADD A,L (R145). -/
  | add_a_l
  /-- 0x86: ADD A,(HL) (R145). -/
  | add_a_mhl
  /-- 0x87: ADD A,A (R145). -/
  | add_a_a
  /-- 0x88: ADC A,B (R146). -/
  | adc_a_b
  /-- 0x89: ADC A,C (R146). -/
  | adc_a_c
  /-- 0x8A: ADC A,D (R146). -/
  | adc_a_d
  /-- 0x8B: ADC A,E (R146). -/
  | adc_a_e
  /-- 0x8C: ADC A,H (R146). -/
  | adc_a_h
  /-- 0x8D: ADC A,L (R146). -/
  | adc_a_l
  /-- 0x8E: ADC A,(HL) (R146). -/
  | adc_a_mhl
  /-- 0x8F: ADC A,A (R146). -/
  | adc_a_a
  /-- 0x90: SUB B (R147). -/
  | sub_b
  /-- 0x91: SUB C (R147). -/
  | sub_c
  /-- 0x92: SUB D (R147). -/
  | sub_d
  /-- 0x93: SUB E (R147). -/
  | sub_e
  /-- 0x94: SUB H (R147). -/
  | sub_h
  /-- 0x95: SUB L (R147). -/
  | sub_l
  /-- 0x96: SUB (HL) (R147). -/
  | sub_mhl
  /-- 0x97: SUB A (R147). -/
  | sub_a
  /-- 0x98: SBC A,B (R148). -/
  | sbc_a_b
  /-- 0x99: SBC A,C (R148). -/
  | sbc_a_c
  /-- 0x9A: SBC A,D (R148). -/
  | sbc_a_d
  /-- 0x9B: SBC A,E (R148). -/
  | sbc_a_e
  /-- 0x9C: SBC A,H (R148). -/
  | sbc_a_h
  /-- 0x9D: SBC A,L (R148). -/
  | sbc_a_l
  /-- 0x9E: SBC A,(HL) (R148). -/
  | sbc_a_mhl
  /-- 0x9F: SBC A,A (R148). -/
  | sbc_a_a
  /-- 0xA0: AND B (R149). -/
  | and_b
  /-- 0xA1: AND C (R149). -/
  | and_c
  /-- 0xA2: AND D (R149). -/
  | and_d
  /-- 0xA3: AND E (R149). -/
  | and_e
  /-- 0xA4: AND H (R149). -/
  | and_h
  /-- 0xA5: AND L (R149). -/
  | and_l
  /-- 0xA6: AND (HL) (R149). -/
  | and_mhl
  /-- 0xA7: AND A (R149). -/
  | and_a
  /-- 0xA8: XOR B (R150). -/
  | xor_b
  /-- 0xA9: XOR C (R150). -/
  | xor_c
  /-- 0xAA: XOR D (R150). -/
  | xor_d
  /-- 0xAB: XOR E (R150). -/
  | xor_e
  /-- 0xAC: XOR H (R150). -/
  | xor_h
  /-- 0xAD: XOR L (R150). -/
  | xor_l
  /-- 0xAE: XOR (HL) (R150). -/
  | xor_mhl
  /-- 0xAF: XOR A (R150). -/
  | xor_a
  /-- 0xB0: OR B (R151). -/
  | or_b
  /-- 0xB1: OR C (R151). -/
  | or_c
  /-- 0xB2: OR D (R151). -/
  | or_d
  /-- 0xB3: OR E (R151). -/
  | or_e
  /-- 0xB4: OR H (R151). -/
  | or_h
  /-- 0xB5: OR L (R151). -/
  | or_l
  /-- 0xB6: OR (HL) (R151). -/
  | or_mhl
  /-- 0xB7: OR A (R151). -/
  | or_a
  /-- 0xB8: CP B (R152). -/
  | cp_b
  /-- 0xB9: CP C (R152). -/
  | cp_c
  /-- 0xBA: CP D (R152). -/
  | cp_d
  /-- 0xBB: CP E (R152). -/
  | cp_e
  /-- 0xBC: CP H (R152). -/
  | cp_h
  /-- 0xBD: CP L (R152). -/
  | cp_l
  /-- 0xBE: CP (HL) (R152). -/
  | cp_mhl
  /-- 0xBF: CP A (R152). -/
  | cp_a
  /-- 0xC0: RET NZ (R251). -/
  | ret_nz
  /-- 0xC1: POP BC (R255). -/
  | pop_bc
  /-- 0xC5: PUSH BC (R254). -/
  | push_bc
  /-- 0xC7: RST 0x00 (R253). -/
  | rst_00
  /-- 0xC8: RET Z (R251). -/
  | ret_z
  /-- 0xC9: RET (R250). -/
  | ret
  /-- 0xCF: RST 0x08 (R253). -/
  | rst_08
  /-- 0xD0: RET NC (R251). -/
  | ret_nc
  /-- 0xD1: POP DE (R255). -/
  | pop_de
  /-- 0xD3: ILLEGAL_D3 (R266). -/
  | illegal_d3
  /-- 0xD5: PUSH DE (R254). -/
  | push_de
  /-- 0xD7: RST 0x10 (R253). -/
  | rst_10
  /-- 0xD8: RET C (R251). -/
  | ret_c
  /-- 0xD9: RETI (R252). -/
  | reti
  /-- 0xDB: ILLEGAL_DB (R266). -/
  | illegal_db
  /-- 0xDD: ILLEGAL_DD (R266). -/
  | illegal_dd
  /-- 0xDF: RST 0x18 (R253). -/
  | rst_18
  /-- 0xE1: POP HL (R255). -/
  | pop_hl
  /-- 0xE2: LD (C),A (R215). -/
  | ld_mc_a
  /-- 0xE3: ILLEGAL_E3 (R266). -/
  | illegal_e3
  /-- 0xE4: ILLEGAL_E4 (R266). -/
  | illegal_e4
  /-- 0xE5: PUSH HL (R254). -/
  | push_hl
  /-- 0xE7: RST 0x20 (R253). -/
  | rst_20
  /-- 0xE9: JP HL (R245). -/
  | jp_hl
  /-- 0xEB: ILLEGAL_EB (R266). -/
  | illegal_eb
  /-- 0xEC: ILLEGAL_EC (R266). -/
  | illegal_ec
  /-- 0xED: ILLEGAL_ED (R266). -/
  | illegal_ed
  /-- 0xEF: RST 0x28 (R253). -/
  | rst_28
  /-- 0xF1: POP AF (R255). -/
  | pop_af
  /-- 0xF2: LD A,(C) (R216). -/
  | ld_a_mc
  /-- 0xF3: DI (R263). -/
  | di
  /-- 0xF4: ILLEGAL_F4 (R266). -/
  | illegal_f4
  /-- 0xF5: PUSH AF (R254). -/
  | push_af
  /-- 0xF7: RST 0x30 (R253). -/
  | rst_30
  /-- 0xF9: LD SP,HL (R221). -/
  | ld_sp_hl
  /-- 0xFB: EI (R264). -/
  | ei
  /-- 0xFC: ILLEGAL_FC (R266). -/
  | illegal_fc
  /-- 0xFD: ILLEGAL_FD (R266). -/
  | illegal_fd
  /-- 0xFF: RST 0x38 (R253). -/
  | rst_38
  /-- 0xCB 0x00: RLC B (R185). -/
  | rlc_b
  /-- 0xCB 0x01: RLC C (R185). -/
  | rlc_c
  /-- 0xCB 0x02: RLC D (R185). -/
  | rlc_d
  /-- 0xCB 0x03: RLC E (R185). -/
  | rlc_e
  /-- 0xCB 0x04: RLC H (R185). -/
  | rlc_h
  /-- 0xCB 0x05: RLC L (R185). -/
  | rlc_l
  /-- 0xCB 0x06: RLC (HL) (R185). -/
  | rlc_mhl
  /-- 0xCB 0x07: RLC A (R185). -/
  | rlc_a
  /-- 0xCB 0x08: RRC B (R186). -/
  | rrc_b
  /-- 0xCB 0x09: RRC C (R186). -/
  | rrc_c
  /-- 0xCB 0x0A: RRC D (R186). -/
  | rrc_d
  /-- 0xCB 0x0B: RRC E (R186). -/
  | rrc_e
  /-- 0xCB 0x0C: RRC H (R186). -/
  | rrc_h
  /-- 0xCB 0x0D: RRC L (R186). -/
  | rrc_l
  /-- 0xCB 0x0E: RRC (HL) (R186). -/
  | rrc_mhl
  /-- 0xCB 0x0F: RRC A (R186). -/
  | rrc_a
  /-- 0xCB 0x10: RL B (R187). -/
  | rl_b
  /-- 0xCB 0x11: RL C (R187). -/
  | rl_c
  /-- 0xCB 0x12: RL D (R187). -/
  | rl_d
  /-- 0xCB 0x13: RL E (R187). -/
  | rl_e
  /-- 0xCB 0x14: RL H (R187). -/
  | rl_h
  /-- 0xCB 0x15: RL L (R187). -/
  | rl_l
  /-- 0xCB 0x16: RL (HL) (R187). -/
  | rl_mhl
  /-- 0xCB 0x17: RL A (R187). -/
  | rl_a
  /-- 0xCB 0x18: RR B (R188). -/
  | rr_b
  /-- 0xCB 0x19: RR C (R188). -/
  | rr_c
  /-- 0xCB 0x1A: RR D (R188). -/
  | rr_d
  /-- 0xCB 0x1B: RR E (R188). -/
  | rr_e
  /-- 0xCB 0x1C: RR H (R188). -/
  | rr_h
  /-- 0xCB 0x1D: RR L (R188). -/
  | rr_l
  /-- 0xCB 0x1E: RR (HL) (R188). -/
  | rr_mhl
  /-- 0xCB 0x1F: RR A (R188). -/
  | rr_a
  /-- 0xCB 0x20: SLA B (R189). -/
  | sla_b
  /-- 0xCB 0x21: SLA C (R189). -/
  | sla_c
  /-- 0xCB 0x22: SLA D (R189). -/
  | sla_d
  /-- 0xCB 0x23: SLA E (R189). -/
  | sla_e
  /-- 0xCB 0x24: SLA H (R189). -/
  | sla_h
  /-- 0xCB 0x25: SLA L (R189). -/
  | sla_l
  /-- 0xCB 0x26: SLA (HL) (R189). -/
  | sla_mhl
  /-- 0xCB 0x27: SLA A (R189). -/
  | sla_a
  /-- 0xCB 0x28: SRA B (R190). -/
  | sra_b
  /-- 0xCB 0x29: SRA C (R190). -/
  | sra_c
  /-- 0xCB 0x2A: SRA D (R190). -/
  | sra_d
  /-- 0xCB 0x2B: SRA E (R190). -/
  | sra_e
  /-- 0xCB 0x2C: SRA H (R190). -/
  | sra_h
  /-- 0xCB 0x2D: SRA L (R190). -/
  | sra_l
  /-- 0xCB 0x2E: SRA (HL) (R190). -/
  | sra_mhl
  /-- 0xCB 0x2F: SRA A (R190). -/
  | sra_a
  /-- 0xCB 0x30: SWAP B (R191). -/
  | swap_b
  /-- 0xCB 0x31: SWAP C (R191). -/
  | swap_c
  /-- 0xCB 0x32: SWAP D (R191). -/
  | swap_d
  /-- 0xCB 0x33: SWAP E (R191). -/
  | swap_e
  /-- 0xCB 0x34: SWAP H (R191). -/
  | swap_h
  /-- 0xCB 0x35: SWAP L (R191). -/
  | swap_l
  /-- 0xCB 0x36: SWAP (HL) (R191). -/
  | swap_mhl
  /-- 0xCB 0x37: SWAP A (R191). -/
  | swap_a
  /-- 0xCB 0x38: SRL B (R192). -/
  | srl_b
  /-- 0xCB 0x39: SRL C (R192). -/
  | srl_c
  /-- 0xCB 0x3A: SRL D (R192). -/
  | srl_d
  /-- 0xCB 0x3B: SRL E (R192). -/
  | srl_e
  /-- 0xCB 0x3C: SRL H (R192). -/
  | srl_h
  /-- 0xCB 0x3D: SRL L (R192). -/
  | srl_l
  /-- 0xCB 0x3E: SRL (HL) (R192). -/
  | srl_mhl
  /-- 0xCB 0x3F: SRL A (R192). -/
  | srl_a
  /-- 0xCB 0x40: BIT 0,B (R193). -/
  | bit_0_b
  /-- 0xCB 0x41: BIT 0,C (R193). -/
  | bit_0_c
  /-- 0xCB 0x42: BIT 0,D (R193). -/
  | bit_0_d
  /-- 0xCB 0x43: BIT 0,E (R193). -/
  | bit_0_e
  /-- 0xCB 0x44: BIT 0,H (R193). -/
  | bit_0_h
  /-- 0xCB 0x45: BIT 0,L (R193). -/
  | bit_0_l
  /-- 0xCB 0x46: BIT 0,(HL) (R193). -/
  | bit_0_mhl
  /-- 0xCB 0x47: BIT 0,A (R193). -/
  | bit_0_a
  /-- 0xCB 0x48: BIT 1,B (R193). -/
  | bit_1_b
  /-- 0xCB 0x49: BIT 1,C (R193). -/
  | bit_1_c
  /-- 0xCB 0x4A: BIT 1,D (R193). -/
  | bit_1_d
  /-- 0xCB 0x4B: BIT 1,E (R193). -/
  | bit_1_e
  /-- 0xCB 0x4C: BIT 1,H (R193). -/
  | bit_1_h
  /-- 0xCB 0x4D: BIT 1,L (R193). -/
  | bit_1_l
  /-- 0xCB 0x4E: BIT 1,(HL) (R193). -/
  | bit_1_mhl
  /-- 0xCB 0x4F: BIT 1,A (R193). -/
  | bit_1_a
  /-- 0xCB 0x50: BIT 2,B (R193). -/
  | bit_2_b
  /-- 0xCB 0x51: BIT 2,C (R193). -/
  | bit_2_c
  /-- 0xCB 0x52: BIT 2,D (R193). -/
  | bit_2_d
  /-- 0xCB 0x53: BIT 2,E (R193). -/
  | bit_2_e
  /-- 0xCB 0x54: BIT 2,H (R193). -/
  | bit_2_h
  /-- 0xCB 0x55: BIT 2,L (R193). -/
  | bit_2_l
  /-- 0xCB 0x56: BIT 2,(HL) (R193). -/
  | bit_2_mhl
  /-- 0xCB 0x57: BIT 2,A (R193). -/
  | bit_2_a
  /-- 0xCB 0x58: BIT 3,B (R193). -/
  | bit_3_b
  /-- 0xCB 0x59: BIT 3,C (R193). -/
  | bit_3_c
  /-- 0xCB 0x5A: BIT 3,D (R193). -/
  | bit_3_d
  /-- 0xCB 0x5B: BIT 3,E (R193). -/
  | bit_3_e
  /-- 0xCB 0x5C: BIT 3,H (R193). -/
  | bit_3_h
  /-- 0xCB 0x5D: BIT 3,L (R193). -/
  | bit_3_l
  /-- 0xCB 0x5E: BIT 3,(HL) (R193). -/
  | bit_3_mhl
  /-- 0xCB 0x5F: BIT 3,A (R193). -/
  | bit_3_a
  /-- 0xCB 0x60: BIT 4,B (R193). -/
  | bit_4_b
  /-- 0xCB 0x61: BIT 4,C (R193). -/
  | bit_4_c
  /-- 0xCB 0x62: BIT 4,D (R193). -/
  | bit_4_d
  /-- 0xCB 0x63: BIT 4,E (R193). -/
  | bit_4_e
  /-- 0xCB 0x64: BIT 4,H (R193). -/
  | bit_4_h
  /-- 0xCB 0x65: BIT 4,L (R193). -/
  | bit_4_l
  /-- 0xCB 0x66: BIT 4,(HL) (R193). -/
  | bit_4_mhl
  /-- 0xCB 0x67: BIT 4,A (R193). -/
  | bit_4_a
  /-- 0xCB 0x68: BIT 5,B (R193). -/
  | bit_5_b
  /-- 0xCB 0x69: BIT 5,C (R193). -/
  | bit_5_c
  /-- 0xCB 0x6A: BIT 5,D (R193). -/
  | bit_5_d
  /-- 0xCB 0x6B: BIT 5,E (R193). -/
  | bit_5_e
  /-- 0xCB 0x6C: BIT 5,H (R193). -/
  | bit_5_h
  /-- 0xCB 0x6D: BIT 5,L (R193). -/
  | bit_5_l
  /-- 0xCB 0x6E: BIT 5,(HL) (R193). -/
  | bit_5_mhl
  /-- 0xCB 0x6F: BIT 5,A (R193). -/
  | bit_5_a
  /-- 0xCB 0x70: BIT 6,B (R193). -/
  | bit_6_b
  /-- 0xCB 0x71: BIT 6,C (R193). -/
  | bit_6_c
  /-- 0xCB 0x72: BIT 6,D (R193). -/
  | bit_6_d
  /-- 0xCB 0x73: BIT 6,E (R193). -/
  | bit_6_e
  /-- 0xCB 0x74: BIT 6,H (R193). -/
  | bit_6_h
  /-- 0xCB 0x75: BIT 6,L (R193). -/
  | bit_6_l
  /-- 0xCB 0x76: BIT 6,(HL) (R193). -/
  | bit_6_mhl
  /-- 0xCB 0x77: BIT 6,A (R193). -/
  | bit_6_a
  /-- 0xCB 0x78: BIT 7,B (R193). -/
  | bit_7_b
  /-- 0xCB 0x79: BIT 7,C (R193). -/
  | bit_7_c
  /-- 0xCB 0x7A: BIT 7,D (R193). -/
  | bit_7_d
  /-- 0xCB 0x7B: BIT 7,E (R193). -/
  | bit_7_e
  /-- 0xCB 0x7C: BIT 7,H (R193). -/
  | bit_7_h
  /-- 0xCB 0x7D: BIT 7,L (R193). -/
  | bit_7_l
  /-- 0xCB 0x7E: BIT 7,(HL) (R193). -/
  | bit_7_mhl
  /-- 0xCB 0x7F: BIT 7,A (R193). -/
  | bit_7_a
  /-- 0xCB 0x80: RES 0,B (R194). -/
  | res_0_b
  /-- 0xCB 0x81: RES 0,C (R194). -/
  | res_0_c
  /-- 0xCB 0x82: RES 0,D (R194). -/
  | res_0_d
  /-- 0xCB 0x83: RES 0,E (R194). -/
  | res_0_e
  /-- 0xCB 0x84: RES 0,H (R194). -/
  | res_0_h
  /-- 0xCB 0x85: RES 0,L (R194). -/
  | res_0_l
  /-- 0xCB 0x86: RES 0,(HL) (R194). -/
  | res_0_mhl
  /-- 0xCB 0x87: RES 0,A (R194). -/
  | res_0_a
  /-- 0xCB 0x88: RES 1,B (R194). -/
  | res_1_b
  /-- 0xCB 0x89: RES 1,C (R194). -/
  | res_1_c
  /-- 0xCB 0x8A: RES 1,D (R194). -/
  | res_1_d
  /-- 0xCB 0x8B: RES 1,E (R194). -/
  | res_1_e
  /-- 0xCB 0x8C: RES 1,H (R194). -/
  | res_1_h
  /-- 0xCB 0x8D: RES 1,L (R194). -/
  | res_1_l
  /-- 0xCB 0x8E: RES 1,(HL) (R194). -/
  | res_1_mhl
  /-- 0xCB 0x8F: RES 1,A (R194). -/
  | res_1_a
  /-- 0xCB 0x90: RES 2,B (R194). -/
  | res_2_b
  /-- 0xCB 0x91: RES 2,C (R194). -/
  | res_2_c
  /-- 0xCB 0x92: RES 2,D (R194). -/
  | res_2_d
  /-- 0xCB 0x93: RES 2,E (R194). -/
  | res_2_e
  /-- 0xCB 0x94: RES 2,H (R194). -/
  | res_2_h
  /-- 0xCB 0x95: RES 2,L (R194). -/
  | res_2_l
  /-- 0xCB 0x96: RES 2,(HL) (R194). -/
  | res_2_mhl
  /-- 0xCB 0x97: RES 2,A (R194). -/
  | res_2_a
  /-- 0xCB 0x98: RES 3,B (R194). -/
  | res_3_b
  /-- 0xCB 0x99: RES 3,C (R194). -/
  | res_3_c
  /-- 0xCB 0x9A: RES 3,D (R194). -/
  | res_3_d
  /-- 0xCB 0x9B: RES 3,E (R194). -/
  | res_3_e
  /-- 0xCB 0x9C: RES 3,H (R194). -/
  | res_3_h
  /-- 0xCB 0x9D: RES 3,L (R194). -/
  | res_3_l
  /-- 0xCB 0x9E: RES 3,(HL) (R194). -/
  | res_3_mhl
  /-- 0xCB 0x9F: RES 3,A (R194). -/
  | res_3_a
  /-- 0xCB 0xA0: RES 4,B (R194). -/
  | res_4_b
  /-- 0xCB 0xA1: RES 4,C (R194). -/
  | res_4_c
  /-- 0xCB 0xA2: RES 4,D (R194). -/
  | res_4_d
  /-- 0xCB 0xA3: RES 4,E (R194). -/
  | res_4_e
  /-- 0xCB 0xA4: RES 4,H (R194). -/
  | res_4_h
  /-- 0xCB 0xA5: RES 4,L (R194). -/
  | res_4_l
  /-- 0xCB 0xA6: RES 4,(HL) (R194). -/
  | res_4_mhl
  /-- 0xCB 0xA7: RES 4,A (R194). -/
  | res_4_a
  /-- 0xCB 0xA8: RES 5,B (R194). -/
  | res_5_b
  /-- 0xCB 0xA9: RES 5,C (R194). -/
  | res_5_c
  /-- 0xCB 0xAA: RES 5,D (R194). -/
  | res_5_d
  /-- 0xCB 0xAB: RES 5,E (R194). -/
  | res_5_e
  /-- 0xCB 0xAC: RES 5,H (R194). -/
  | res_5_h
  /-- 0xCB 0xAD: RES 5,L (R194). -/
  | res_5_l
  /-- 0xCB 0xAE: RES 5,(HL) (R194). -/
  | res_5_mhl
  /-- 0xCB 0xAF: RES 5,A (R194). -/
  | res_5_a
  /-- 0xCB 0xB0: RES 6,B (R194). -/
  | res_6_b
  /-- 0xCB 0xB1: RES 6,C (R194). -/
  | res_6_c
  /-- 0xCB 0xB2: RES 6,D (R194). -/
  | res_6_d
  /-- 0xCB 0xB3: RES 6,E (R194). -/
  | res_6_e
  /-- 0xCB 0xB4: RES 6,H (R194). -/
  | res_6_h
  /-- 0xCB 0xB5: RES 6,L (R194). -/
  | res_6_l
  /-- 0xCB 0xB6: RES 6,(HL) (R194). -/
  | res_6_mhl
  /-- 0xCB 0xB7: RES 6,A (R194). -/
  | res_6_a
  /-- 0xCB 0xB8: RES 7,B (R194). -/
  | res_7_b
  /-- 0xCB 0xB9: RES 7,C (R194). -/
  | res_7_c
  /-- 0xCB 0xBA: RES 7,D (R194). -/
  | res_7_d
  /-- 0xCB 0xBB: RES 7,E (R194). -/
  | res_7_e
  /-- 0xCB 0xBC: RES 7,H (R194). -/
  | res_7_h
  /-- 0xCB 0xBD: RES 7,L (R194). -/
  | res_7_l
  /-- 0xCB 0xBE: RES 7,(HL) (R194). -/
  | res_7_mhl
  /-- 0xCB 0xBF: RES 7,A (R194). -/
  | res_7_a
  /-- 0xCB 0xC0: SET 0,B (R195). -/
  | set_0_b
  /-- 0xCB 0xC1: SET 0,C (R195). -/
  | set_0_c
  /-- 0xCB 0xC2: SET 0,D (R195). -/
  | set_0_d
  /-- 0xCB 0xC3: SET 0,E (R195). -/
  | set_0_e
  /-- 0xCB 0xC4: SET 0,H (R195). -/
  | set_0_h
  /-- 0xCB 0xC5: SET 0,L (R195). -/
  | set_0_l
  /-- 0xCB 0xC6: SET 0,(HL) (R195). -/
  | set_0_mhl
  /-- 0xCB 0xC7: SET 0,A (R195). -/
  | set_0_a
  /-- 0xCB 0xC8: SET 1,B (R195). -/
  | set_1_b
  /-- 0xCB 0xC9: SET 1,C (R195). -/
  | set_1_c
  /-- 0xCB 0xCA: SET 1,D (R195). -/
  | set_1_d
  /-- 0xCB 0xCB: SET 1,E (R195). -/
  | set_1_e
  /-- 0xCB 0xCC: SET 1,H (R195). -/
  | set_1_h
  /-- 0xCB 0xCD: SET 1,L (R195). -/
  | set_1_l
  /-- 0xCB 0xCE: SET 1,(HL) (R195). -/
  | set_1_mhl
  /-- 0xCB 0xCF: SET 1,A (R195). -/
  | set_1_a
  /-- 0xCB 0xD0: SET 2,B (R195). -/
  | set_2_b
  /-- 0xCB 0xD1: SET 2,C (R195). -/
  | set_2_c
  /-- 0xCB 0xD2: SET 2,D (R195). -/
  | set_2_d
  /-- 0xCB 0xD3: SET 2,E (R195). -/
  | set_2_e
  /-- 0xCB 0xD4: SET 2,H (R195). -/
  | set_2_h
  /-- 0xCB 0xD5: SET 2,L (R195). -/
  | set_2_l
  /-- 0xCB 0xD6: SET 2,(HL) (R195). -/
  | set_2_mhl
  /-- 0xCB 0xD7: SET 2,A (R195). -/
  | set_2_a
  /-- 0xCB 0xD8: SET 3,B (R195). -/
  | set_3_b
  /-- 0xCB 0xD9: SET 3,C (R195). -/
  | set_3_c
  /-- 0xCB 0xDA: SET 3,D (R195). -/
  | set_3_d
  /-- 0xCB 0xDB: SET 3,E (R195). -/
  | set_3_e
  /-- 0xCB 0xDC: SET 3,H (R195). -/
  | set_3_h
  /-- 0xCB 0xDD: SET 3,L (R195). -/
  | set_3_l
  /-- 0xCB 0xDE: SET 3,(HL) (R195). -/
  | set_3_mhl
  /-- 0xCB 0xDF: SET 3,A (R195). -/
  | set_3_a
  /-- 0xCB 0xE0: SET 4,B (R195). -/
  | set_4_b
  /-- 0xCB 0xE1: SET 4,C (R195). -/
  | set_4_c
  /-- 0xCB 0xE2: SET 4,D (R195). -/
  | set_4_d
  /-- 0xCB 0xE3: SET 4,E (R195). -/
  | set_4_e
  /-- 0xCB 0xE4: SET 4,H (R195). -/
  | set_4_h
  /-- 0xCB 0xE5: SET 4,L (R195). -/
  | set_4_l
  /-- 0xCB 0xE6: SET 4,(HL) (R195). -/
  | set_4_mhl
  /-- 0xCB 0xE7: SET 4,A (R195). -/
  | set_4_a
  /-- 0xCB 0xE8: SET 5,B (R195). -/
  | set_5_b
  /-- 0xCB 0xE9: SET 5,C (R195). -/
  | set_5_c
  /-- 0xCB 0xEA: SET 5,D (R195). -/
  | set_5_d
  /-- 0xCB 0xEB: SET 5,E (R195). -/
  | set_5_e
  /-- 0xCB 0xEC: SET 5,H (R195). -/
  | set_5_h
  /-- 0xCB 0xED: SET 5,L (R195). -/
  | set_5_l
  /-- 0xCB 0xEE: SET 5,(HL) (R195). -/
  | set_5_mhl
  /-- 0xCB 0xEF: SET 5,A (R195). -/
  | set_5_a
  /-- 0xCB 0xF0: SET 6,B (R195). -/
  | set_6_b
  /-- 0xCB 0xF1: SET 6,C (R195). -/
  | set_6_c
  /-- 0xCB 0xF2: SET 6,D (R195). -/
  | set_6_d
  /-- 0xCB 0xF3: SET 6,E (R195). -/
  | set_6_e
  /-- 0xCB 0xF4: SET 6,H (R195). -/
  | set_6_h
  /-- 0xCB 0xF5: SET 6,L (R195). -/
  | set_6_l
  /-- 0xCB 0xF6: SET 6,(HL) (R195). -/
  | set_6_mhl
  /-- 0xCB 0xF7: SET 6,A (R195). -/
  | set_6_a
  /-- 0xCB 0xF8: SET 7,B (R195). -/
  | set_7_b
  /-- 0xCB 0xF9: SET 7,C (R195). -/
  | set_7_c
  /-- 0xCB 0xFA: SET 7,D (R195). -/
  | set_7_d
  /-- 0xCB 0xFB: SET 7,E (R195). -/
  | set_7_e
  /-- 0xCB 0xFC: SET 7,H (R195). -/
  | set_7_h
  /-- 0xCB 0xFD: SET 7,L (R195). -/
  | set_7_l
  /-- 0xCB 0xFE: SET 7,(HL) (R195). -/
  | set_7_mhl
  /-- 0xCB 0xFF: SET 7,A (R195). -/
  | set_7_a
  deriving DecidableEq, Repr

/-- The format of an instruction (R110; the column "format" of opcode_table.json). -/
def Instr.format : Instr → Format
  | .nop => .f1
  | .ld_bc_d16 _ => .f3
  | .ld_mbc_a => .f1
  | .inc_bc => .f1
  | .inc_b => .f1
  | .dec_b => .f1
  | .ld_b_d8 _ => .f2
  | .rlca => .f1
  | .ld_ma16_sp _ => .f3
  | .add_hl_bc => .f1
  | .ld_a_mbc => .f1
  | .dec_bc => .f1
  | .inc_c => .f1
  | .dec_c => .f1
  | .ld_c_d8 _ => .f2
  | .rrca => .f1
  | .stop _ => .f2s
  | .ld_de_d16 _ => .f3
  | .ld_mde_a => .f1
  | .inc_de => .f1
  | .inc_d => .f1
  | .dec_d => .f1
  | .ld_d_d8 _ => .f2
  | .rla => .f1
  | .jr_s8 _ => .f2
  | .add_hl_de => .f1
  | .ld_a_mde => .f1
  | .dec_de => .f1
  | .inc_e => .f1
  | .dec_e => .f1
  | .ld_e_d8 _ => .f2
  | .rra => .f1
  | .jr_nz_s8 _ => .f2
  | .ld_hl_d16 _ => .f3
  | .ld_mhli_a => .f1
  | .inc_hl => .f1
  | .inc_h => .f1
  | .dec_h => .f1
  | .ld_h_d8 _ => .f2
  | .daa => .f1
  | .jr_z_s8 _ => .f2
  | .add_hl_hl => .f1
  | .ld_a_mhli => .f1
  | .dec_hl => .f1
  | .inc_l => .f1
  | .dec_l => .f1
  | .ld_l_d8 _ => .f2
  | .cpl => .f1
  | .jr_nc_s8 _ => .f2
  | .ld_sp_d16 _ => .f3
  | .ld_mhld_a => .f1
  | .inc_sp => .f1
  | .inc_mhl => .f1
  | .dec_mhl => .f1
  | .ld_mhl_d8 _ => .f2
  | .scf => .f1
  | .jr_c_s8 _ => .f2
  | .add_hl_sp => .f1
  | .ld_a_mhld => .f1
  | .dec_sp => .f1
  | .inc_a => .f1
  | .dec_a => .f1
  | .ld_a_d8 _ => .f2
  | .ccf => .f1
  | .ld_b_b => .f1
  | .ld_b_c => .f1
  | .ld_b_d => .f1
  | .ld_b_e => .f1
  | .ld_b_h => .f1
  | .ld_b_l => .f1
  | .ld_b_mhl => .f1
  | .ld_b_a => .f1
  | .ld_c_b => .f1
  | .ld_c_c => .f1
  | .ld_c_d => .f1
  | .ld_c_e => .f1
  | .ld_c_h => .f1
  | .ld_c_l => .f1
  | .ld_c_mhl => .f1
  | .ld_c_a => .f1
  | .ld_d_b => .f1
  | .ld_d_c => .f1
  | .ld_d_d => .f1
  | .ld_d_e => .f1
  | .ld_d_h => .f1
  | .ld_d_l => .f1
  | .ld_d_mhl => .f1
  | .ld_d_a => .f1
  | .ld_e_b => .f1
  | .ld_e_c => .f1
  | .ld_e_d => .f1
  | .ld_e_e => .f1
  | .ld_e_h => .f1
  | .ld_e_l => .f1
  | .ld_e_mhl => .f1
  | .ld_e_a => .f1
  | .ld_h_b => .f1
  | .ld_h_c => .f1
  | .ld_h_d => .f1
  | .ld_h_e => .f1
  | .ld_h_h => .f1
  | .ld_h_l => .f1
  | .ld_h_mhl => .f1
  | .ld_h_a => .f1
  | .ld_l_b => .f1
  | .ld_l_c => .f1
  | .ld_l_d => .f1
  | .ld_l_e => .f1
  | .ld_l_h => .f1
  | .ld_l_l => .f1
  | .ld_l_mhl => .f1
  | .ld_l_a => .f1
  | .ld_mhl_b => .f1
  | .ld_mhl_c => .f1
  | .ld_mhl_d => .f1
  | .ld_mhl_e => .f1
  | .ld_mhl_h => .f1
  | .ld_mhl_l => .f1
  | .halt => .f1
  | .ld_mhl_a => .f1
  | .ld_a_b => .f1
  | .ld_a_c => .f1
  | .ld_a_d => .f1
  | .ld_a_e => .f1
  | .ld_a_h => .f1
  | .ld_a_l => .f1
  | .ld_a_mhl => .f1
  | .ld_a_a => .f1
  | .add_a_b => .f1
  | .add_a_c => .f1
  | .add_a_d => .f1
  | .add_a_e => .f1
  | .add_a_h => .f1
  | .add_a_l => .f1
  | .add_a_mhl => .f1
  | .add_a_a => .f1
  | .adc_a_b => .f1
  | .adc_a_c => .f1
  | .adc_a_d => .f1
  | .adc_a_e => .f1
  | .adc_a_h => .f1
  | .adc_a_l => .f1
  | .adc_a_mhl => .f1
  | .adc_a_a => .f1
  | .sub_b => .f1
  | .sub_c => .f1
  | .sub_d => .f1
  | .sub_e => .f1
  | .sub_h => .f1
  | .sub_l => .f1
  | .sub_mhl => .f1
  | .sub_a => .f1
  | .sbc_a_b => .f1
  | .sbc_a_c => .f1
  | .sbc_a_d => .f1
  | .sbc_a_e => .f1
  | .sbc_a_h => .f1
  | .sbc_a_l => .f1
  | .sbc_a_mhl => .f1
  | .sbc_a_a => .f1
  | .and_b => .f1
  | .and_c => .f1
  | .and_d => .f1
  | .and_e => .f1
  | .and_h => .f1
  | .and_l => .f1
  | .and_mhl => .f1
  | .and_a => .f1
  | .xor_b => .f1
  | .xor_c => .f1
  | .xor_d => .f1
  | .xor_e => .f1
  | .xor_h => .f1
  | .xor_l => .f1
  | .xor_mhl => .f1
  | .xor_a => .f1
  | .or_b => .f1
  | .or_c => .f1
  | .or_d => .f1
  | .or_e => .f1
  | .or_h => .f1
  | .or_l => .f1
  | .or_mhl => .f1
  | .or_a => .f1
  | .cp_b => .f1
  | .cp_c => .f1
  | .cp_d => .f1
  | .cp_e => .f1
  | .cp_h => .f1
  | .cp_l => .f1
  | .cp_mhl => .f1
  | .cp_a => .f1
  | .ret_nz => .f1
  | .pop_bc => .f1
  | .jp_nz_a16 _ => .f3
  | .jp_a16 _ => .f3
  | .call_nz_a16 _ => .f3
  | .push_bc => .f1
  | .add_a_d8 _ => .f2
  | .rst_00 => .f1
  | .ret_z => .f1
  | .ret => .f1
  | .jp_z_a16 _ => .f3
  | .prefix_cb _ => .fcb
  | .call_z_a16 _ => .f3
  | .call_a16 _ => .f3
  | .adc_a_d8 _ => .f2
  | .rst_08 => .f1
  | .ret_nc => .f1
  | .pop_de => .f1
  | .jp_nc_a16 _ => .f3
  | .illegal_d3 => .f1
  | .call_nc_a16 _ => .f3
  | .push_de => .f1
  | .sub_d8 _ => .f2
  | .rst_10 => .f1
  | .ret_c => .f1
  | .reti => .f1
  | .jp_c_a16 _ => .f3
  | .illegal_db => .f1
  | .call_c_a16 _ => .f3
  | .illegal_dd => .f1
  | .sbc_a_d8 _ => .f2
  | .rst_18 => .f1
  | .ldh_ma8_a _ => .f2
  | .pop_hl => .f1
  | .ld_mc_a => .f1
  | .illegal_e3 => .f1
  | .illegal_e4 => .f1
  | .push_hl => .f1
  | .and_d8 _ => .f2
  | .rst_20 => .f1
  | .add_sp_s8 _ => .f2
  | .jp_hl => .f1
  | .ld_ma16_a _ => .f3
  | .illegal_eb => .f1
  | .illegal_ec => .f1
  | .illegal_ed => .f1
  | .xor_d8 _ => .f2
  | .rst_28 => .f1
  | .ldh_a_ma8 _ => .f2
  | .pop_af => .f1
  | .ld_a_mc => .f1
  | .di => .f1
  | .illegal_f4 => .f1
  | .push_af => .f1
  | .or_d8 _ => .f2
  | .rst_30 => .f1
  | .ld_hl_sp_s8 _ => .f2
  | .ld_sp_hl => .f1
  | .ld_a_ma16 _ => .f3
  | .ei => .f1
  | .illegal_fc => .f1
  | .illegal_fd => .f1
  | .cp_d8 _ => .f2
  | .rst_38 => .f1
  | .rlc_b => .fcb
  | .rlc_c => .fcb
  | .rlc_d => .fcb
  | .rlc_e => .fcb
  | .rlc_h => .fcb
  | .rlc_l => .fcb
  | .rlc_mhl => .fcb
  | .rlc_a => .fcb
  | .rrc_b => .fcb
  | .rrc_c => .fcb
  | .rrc_d => .fcb
  | .rrc_e => .fcb
  | .rrc_h => .fcb
  | .rrc_l => .fcb
  | .rrc_mhl => .fcb
  | .rrc_a => .fcb
  | .rl_b => .fcb
  | .rl_c => .fcb
  | .rl_d => .fcb
  | .rl_e => .fcb
  | .rl_h => .fcb
  | .rl_l => .fcb
  | .rl_mhl => .fcb
  | .rl_a => .fcb
  | .rr_b => .fcb
  | .rr_c => .fcb
  | .rr_d => .fcb
  | .rr_e => .fcb
  | .rr_h => .fcb
  | .rr_l => .fcb
  | .rr_mhl => .fcb
  | .rr_a => .fcb
  | .sla_b => .fcb
  | .sla_c => .fcb
  | .sla_d => .fcb
  | .sla_e => .fcb
  | .sla_h => .fcb
  | .sla_l => .fcb
  | .sla_mhl => .fcb
  | .sla_a => .fcb
  | .sra_b => .fcb
  | .sra_c => .fcb
  | .sra_d => .fcb
  | .sra_e => .fcb
  | .sra_h => .fcb
  | .sra_l => .fcb
  | .sra_mhl => .fcb
  | .sra_a => .fcb
  | .swap_b => .fcb
  | .swap_c => .fcb
  | .swap_d => .fcb
  | .swap_e => .fcb
  | .swap_h => .fcb
  | .swap_l => .fcb
  | .swap_mhl => .fcb
  | .swap_a => .fcb
  | .srl_b => .fcb
  | .srl_c => .fcb
  | .srl_d => .fcb
  | .srl_e => .fcb
  | .srl_h => .fcb
  | .srl_l => .fcb
  | .srl_mhl => .fcb
  | .srl_a => .fcb
  | .bit_0_b => .fcb
  | .bit_0_c => .fcb
  | .bit_0_d => .fcb
  | .bit_0_e => .fcb
  | .bit_0_h => .fcb
  | .bit_0_l => .fcb
  | .bit_0_mhl => .fcb
  | .bit_0_a => .fcb
  | .bit_1_b => .fcb
  | .bit_1_c => .fcb
  | .bit_1_d => .fcb
  | .bit_1_e => .fcb
  | .bit_1_h => .fcb
  | .bit_1_l => .fcb
  | .bit_1_mhl => .fcb
  | .bit_1_a => .fcb
  | .bit_2_b => .fcb
  | .bit_2_c => .fcb
  | .bit_2_d => .fcb
  | .bit_2_e => .fcb
  | .bit_2_h => .fcb
  | .bit_2_l => .fcb
  | .bit_2_mhl => .fcb
  | .bit_2_a => .fcb
  | .bit_3_b => .fcb
  | .bit_3_c => .fcb
  | .bit_3_d => .fcb
  | .bit_3_e => .fcb
  | .bit_3_h => .fcb
  | .bit_3_l => .fcb
  | .bit_3_mhl => .fcb
  | .bit_3_a => .fcb
  | .bit_4_b => .fcb
  | .bit_4_c => .fcb
  | .bit_4_d => .fcb
  | .bit_4_e => .fcb
  | .bit_4_h => .fcb
  | .bit_4_l => .fcb
  | .bit_4_mhl => .fcb
  | .bit_4_a => .fcb
  | .bit_5_b => .fcb
  | .bit_5_c => .fcb
  | .bit_5_d => .fcb
  | .bit_5_e => .fcb
  | .bit_5_h => .fcb
  | .bit_5_l => .fcb
  | .bit_5_mhl => .fcb
  | .bit_5_a => .fcb
  | .bit_6_b => .fcb
  | .bit_6_c => .fcb
  | .bit_6_d => .fcb
  | .bit_6_e => .fcb
  | .bit_6_h => .fcb
  | .bit_6_l => .fcb
  | .bit_6_mhl => .fcb
  | .bit_6_a => .fcb
  | .bit_7_b => .fcb
  | .bit_7_c => .fcb
  | .bit_7_d => .fcb
  | .bit_7_e => .fcb
  | .bit_7_h => .fcb
  | .bit_7_l => .fcb
  | .bit_7_mhl => .fcb
  | .bit_7_a => .fcb
  | .res_0_b => .fcb
  | .res_0_c => .fcb
  | .res_0_d => .fcb
  | .res_0_e => .fcb
  | .res_0_h => .fcb
  | .res_0_l => .fcb
  | .res_0_mhl => .fcb
  | .res_0_a => .fcb
  | .res_1_b => .fcb
  | .res_1_c => .fcb
  | .res_1_d => .fcb
  | .res_1_e => .fcb
  | .res_1_h => .fcb
  | .res_1_l => .fcb
  | .res_1_mhl => .fcb
  | .res_1_a => .fcb
  | .res_2_b => .fcb
  | .res_2_c => .fcb
  | .res_2_d => .fcb
  | .res_2_e => .fcb
  | .res_2_h => .fcb
  | .res_2_l => .fcb
  | .res_2_mhl => .fcb
  | .res_2_a => .fcb
  | .res_3_b => .fcb
  | .res_3_c => .fcb
  | .res_3_d => .fcb
  | .res_3_e => .fcb
  | .res_3_h => .fcb
  | .res_3_l => .fcb
  | .res_3_mhl => .fcb
  | .res_3_a => .fcb
  | .res_4_b => .fcb
  | .res_4_c => .fcb
  | .res_4_d => .fcb
  | .res_4_e => .fcb
  | .res_4_h => .fcb
  | .res_4_l => .fcb
  | .res_4_mhl => .fcb
  | .res_4_a => .fcb
  | .res_5_b => .fcb
  | .res_5_c => .fcb
  | .res_5_d => .fcb
  | .res_5_e => .fcb
  | .res_5_h => .fcb
  | .res_5_l => .fcb
  | .res_5_mhl => .fcb
  | .res_5_a => .fcb
  | .res_6_b => .fcb
  | .res_6_c => .fcb
  | .res_6_d => .fcb
  | .res_6_e => .fcb
  | .res_6_h => .fcb
  | .res_6_l => .fcb
  | .res_6_mhl => .fcb
  | .res_6_a => .fcb
  | .res_7_b => .fcb
  | .res_7_c => .fcb
  | .res_7_d => .fcb
  | .res_7_e => .fcb
  | .res_7_h => .fcb
  | .res_7_l => .fcb
  | .res_7_mhl => .fcb
  | .res_7_a => .fcb
  | .set_0_b => .fcb
  | .set_0_c => .fcb
  | .set_0_d => .fcb
  | .set_0_e => .fcb
  | .set_0_h => .fcb
  | .set_0_l => .fcb
  | .set_0_mhl => .fcb
  | .set_0_a => .fcb
  | .set_1_b => .fcb
  | .set_1_c => .fcb
  | .set_1_d => .fcb
  | .set_1_e => .fcb
  | .set_1_h => .fcb
  | .set_1_l => .fcb
  | .set_1_mhl => .fcb
  | .set_1_a => .fcb
  | .set_2_b => .fcb
  | .set_2_c => .fcb
  | .set_2_d => .fcb
  | .set_2_e => .fcb
  | .set_2_h => .fcb
  | .set_2_l => .fcb
  | .set_2_mhl => .fcb
  | .set_2_a => .fcb
  | .set_3_b => .fcb
  | .set_3_c => .fcb
  | .set_3_d => .fcb
  | .set_3_e => .fcb
  | .set_3_h => .fcb
  | .set_3_l => .fcb
  | .set_3_mhl => .fcb
  | .set_3_a => .fcb
  | .set_4_b => .fcb
  | .set_4_c => .fcb
  | .set_4_d => .fcb
  | .set_4_e => .fcb
  | .set_4_h => .fcb
  | .set_4_l => .fcb
  | .set_4_mhl => .fcb
  | .set_4_a => .fcb
  | .set_5_b => .fcb
  | .set_5_c => .fcb
  | .set_5_d => .fcb
  | .set_5_e => .fcb
  | .set_5_h => .fcb
  | .set_5_l => .fcb
  | .set_5_mhl => .fcb
  | .set_5_a => .fcb
  | .set_6_b => .fcb
  | .set_6_c => .fcb
  | .set_6_d => .fcb
  | .set_6_e => .fcb
  | .set_6_h => .fcb
  | .set_6_l => .fcb
  | .set_6_mhl => .fcb
  | .set_6_a => .fcb
  | .set_7_b => .fcb
  | .set_7_c => .fcb
  | .set_7_d => .fcb
  | .set_7_e => .fcb
  | .set_7_h => .fcb
  | .set_7_l => .fcb
  | .set_7_mhl => .fcb
  | .set_7_a => .fcb

/-- The length of an instruction in bytes (R110). -/
def Instr.length (i : Instr) : Nat := i.format.length

end Sys2Proof
end

