-- ==== Sys2Proof/Machine/Flags.lean ====
section
/-! DEFINITION. The flag byte and every flag computation of the instruction set as pure functions: spec 40_alu8.md
R140, R141, R143, R144, R149 to R157, 41_alu16.md R170, R173, 42_rotate_shift_bit.md R180 to R195. Each computes the
exact sum on natural numbers first and narrows it at the end. -/

namespace Sys2Proof.Machine

/-- F from its four flags: Z, N, Hf, Cy in bits 7, 6, 5, 4, the low nibble zero (10_state.md R21). -/
def flagByte (z n h c : Bool) : Byte :=
  (if z then 0x80#8 else 0x00#8) ||| (if n then 0x40#8 else 0x00#8)
    ||| (if h then 0x20#8 else 0x00#8) ||| (if c then 0x10#8 else 0x00#8)

/-- The flag Z of a flag byte, bit 7 (R21). -/
def flagZ (f : Byte) : Bool := bitOf f 7

/-- The flag N of a flag byte, bit 6 (R21). -/
def flagN (f : Byte) : Bool := bitOf f 6

/-- The flag Hf of a flag byte, bit 5 (R21). -/
def flagH (f : Byte) : Bool := bitOf f 5

/-- The flag Cy of a flag byte, bit 4 (R21). -/
def flagC (f : Byte) : Bool := bitOf f 4

/-- A byte as F takes it: the low nibble is masked to zero (R21, `POP AF` of 44_control_stack.md R255). -/
def maskFlags (v : Byte) : Byte := v &&& 0xF0#8

/-- An 8-bit result with the flag byte it leaves. -/
structure Flagged where
  res : Byte
  flags : Byte
  deriving DecidableEq, Repr

/-- A 16-bit result with the flag byte it leaves. -/
structure Flagged16 where
  res : Word
  flags : Byte
  deriving DecidableEq, Repr

/-- The low nibble of a byte as a number. -/
def lowNibble (v : Byte) : Nat := v.toNat % 16

/-- `Add8(a, b, cin)` (R140). -/
def add8 (a b : Byte) (cin : Bool) : Flagged :=
  let sum := a.toNat + b.toNat + cin.toNat
  let res := BitVec.ofNat 8 sum
  ⟨res, flagByte (decide (res = 0x00#8)) false (decide (lowNibble a + lowNibble b + cin.toNat > 0x0F)) (decide (sum > 0xFF))⟩

/-- `Sub8(a, b, cin)` (R141): the comparisons are on unbounded integers. -/
def sub8 (a b : Byte) (cin : Bool) : Flagged :=
  let res := a - b - BitVec.ofNat 8 cin.toNat
  ⟨res, flagByte (decide (res = 0x00#8)) true (decide (lowNibble a < lowNibble b + cin.toNat)) (decide (a.toNat < b.toNat + cin.toNat))⟩

/-- AND (R149): Hf 1, N and Cy 0. -/
def and8 (a b : Byte) : Flagged :=
  let res := a &&& b
  ⟨res, flagByte (decide (res = 0x00#8)) false true false⟩

/-- XOR (R150): N, Hf, Cy 0. -/
def xor8 (a b : Byte) : Flagged :=
  let res := a ^^^ b
  ⟨res, flagByte (decide (res = 0x00#8)) false false false⟩

/-- OR (R151): N, Hf, Cy 0. -/
def or8 (a b : Byte) : Flagged :=
  let res := a ||| b
  ⟨res, flagByte (decide (res = 0x00#8)) false false false⟩

/-- INC (R143): Z and Hf from the value after, N 0, Cy kept from the flags before. -/
def inc8 (v f : Byte) : Flagged :=
  let res := v + 1#8
  ⟨res, flagByte (decide (res = 0x00#8)) false (decide (lowNibble res = 0x00)) (flagC f)⟩

/-- DEC (R144): Z and Hf from the value after, N 1, Cy kept from the flags before. -/
def dec8 (v f : Byte) : Flagged :=
  let res := v - 1#8
  ⟨res, flagByte (decide (res = 0x00#8)) true (decide (lowNibble res = 0x0F)) (flagC f)⟩

/-- The operation `alu[y]` of R116 on A and the operand: R145 to R152. For CP the result is not written to A. -/
def alu8 (op : AluOp) (a x f : Byte) : Flagged :=
  match op with
  | .add => add8 a x false
  | .adc => add8 a x (flagC f)
  | .sub => sub8 a x false
  | .sbc => sub8 a x (flagC f)
  | .and => and8 a x
  | .xor => xor8 a x
  | .or => or8 a x
  | .cp => sub8 a x false

/-- DAA (R153): the adjustment is signed by N and driven by Hf and Cy; Cy may be set, never cleared; Hf is cleared. -/
def daa8 (a f : Byte) : Flagged :=
  let n := flagN f
  let high := if n then flagC f else flagC f || decide (a.toNat > 0x99)
  let low := if n then flagH f else flagH f || decide (lowNibble a > 0x09)
  let adjust : Byte := (if high then 0x60#8 else 0x00#8) + (if low then 0x06#8 else 0x00#8)
  let res := if n then a - adjust else a + adjust
  ⟨res, flagByte (decide (res = 0x00#8)) n false high⟩

/-- CPL (R154): N and Hf 1, Z and Cy kept. -/
def cpl8 (a f : Byte) : Flagged := ⟨a ^^^ 0xFF#8, flagByte (flagZ f) true true (flagC f)⟩

/-- The flags SCF leaves (R155): N and Hf 0, Cy 1, Z kept. -/
def scfFlags (f : Byte) : Byte := flagByte (flagZ f) false false true

/-- The flags CCF leaves (R156): N and Hf 0, Cy inverted, Z kept. -/
def ccfFlags (f : Byte) : Byte := flagByte (flagZ f) false false (!flagC f)

/-- What a rotate or shift makes of a byte: the new byte and the bit shifted out (R180 to R192). SWAP shifts no bit out
and clears Cy (R191). -/
def rotate (op : RotOp) (v : Byte) (cy : Bool) : Byte × Bool :=
  match op with
  | .rlc => (v <<< 1 ||| BitVec.ofNat 8 (bitOf v 7).toNat, bitOf v 7)
  | .rrc => (v >>> 1 ||| BitVec.ofNat 8 (bitOf v 0).toNat <<< 7, bitOf v 0)
  | .rl => (v <<< 1 ||| BitVec.ofNat 8 cy.toNat, bitOf v 7)
  | .rr => (v >>> 1 ||| BitVec.ofNat 8 cy.toNat <<< 7, bitOf v 0)
  | .sla => (v <<< 1, bitOf v 7)
  | .sra => (v >>> 1 ||| (v &&& 0x80#8), bitOf v 0)
  | .swap => (v <<< 4 ||| v >>> 4, false)
  | .srl => (v >>> 1, bitOf v 0)

/-- A CB rotate or shift with its flags: Z from the result, N and Hf 0, Cy the bit shifted out (R185 to R192). -/
def rot8 (op : RotOp) (v f : Byte) : Flagged :=
  let r := rotate op v (flagC f)
  ⟨r.1, flagByte (decide (r.1 = 0x00#8)) false false r.2⟩

/-- An accumulator rotate with its flags: Z is always 0 (R180 to R183). -/
def rotA8 (op : RotOp) (v f : Byte) : Flagged :=
  let r := rotate op v (flagC f)
  ⟨r.1, flagByte false false false r.2⟩

/-- The flags of `BIT n` (R193): Z the inverted bit, N 0, Hf 1, Cy kept. -/
def bitFlags (n : Index8) (v f : Byte) : Byte := flagByte (!bitOf v n.toNat) false true (flagC f)

/-- `RES n` (R194). -/
def resBit (n : Index8) (v : Byte) : Byte := v &&& ~~~(1#8 <<< n.toNat)

/-- `SET n` (R195). -/
def setBit (n : Index8) (v : Byte) : Byte := v ||| 1#8 <<< n.toNat

/-- `ADD HL,rr` (41_alu16.md R170): N 0, Hf the carry out of bit 11, Cy the carry out of bit 15, Z kept. -/
def addHl16 (hl v : Word) (f : Byte) : Flagged16 :=
  let sum := hl.toNat + v.toNat
  ⟨BitVec.ofNat 16 sum,
    flagByte (flagZ f) false (decide (hl.toNat % 0x1000 + v.toNat % 0x1000 > 0x0FFF)) (decide (sum > 0xFFFF))⟩

/-- `SP + s8` (R173, R174): Z and N 0; Hf and Cy are the carries out of bits 3 and 7 of the unsigned low-byte addition. -/
def addSp16 (sp : Word) (e : Byte) : Flagged16 :=
  ⟨sp + sext16 e,
    flagByte false false (decide (sp.toNat % 0x10 + e.toNat % 0x10 > 0x0F)) (decide (sp.toNat % 0x100 + e.toNat > 0xFF))⟩

end Sys2Proof.Machine
end

