-- ==== Sys2Proof/Machine/Ops.lean ====
section
/-! DEFINITION. The named operations over registers and memory that the meanings share: the register file and the pairs
(spec 10_state.md R20 to R24), the stack (44_control_stack.md R240, R241), the conditions (R242), interrupt entry
(49_machine_step.md R282) and return (44_control_stack.md R252), the undefined-opcode event (45_system.md R266), and how
a meaning ends with its T-cycle count (49_machine_step.md R286). -/

namespace Sys2Proof.Machine

/-- `r8[i]` (R8, R113). -/
def State.reg (s : State) (r : Reg8) : Byte :=
  match r with
  | .b => s.cpu.b
  | .c => s.cpu.c
  | .d => s.cpu.d
  | .e => s.cpu.e
  | .h => s.cpu.h
  | .l => s.cpu.l
  | .a => s.cpu.a

/-- `r8[i] <- v` (R8, R113). -/
def State.setReg (s : State) (r : Reg8) (v : Byte) : State :=
  match r with
  | .b => { s with cpu := { s.cpu with b := v } }
  | .c => { s with cpu := { s.cpu with c := v } }
  | .d => { s with cpu := { s.cpu with d := v } }
  | .e => { s with cpu := { s.cpu with e := v } }
  | .h => { s with cpu := { s.cpu with h := v } }
  | .l => { s with cpu := { s.cpu with l := v } }
  | .a => { s with cpu := { s.cpu with a := v } }

/-- The one write of F: the low nibble is masked to zero (10_state.md R21). -/
def State.setF (s : State) (v : Byte) : State := { s with cpu := { s.cpu with f := maskFlags v } }

/-- `PC <- v`. -/
def State.setPc (s : State) (v : Word) : State := { s with cpu := { s.cpu with pc := v } }

/-- `SP <- v`. -/
def State.setSp (s : State) (v : Word) : State := { s with cpu := { s.cpu with sp := v } }

/-- `IME <- v`. -/
def State.setIme (s : State) (v : Bool) : State := { s with cpu := { s.cpu with ime := v } }

/-- `ime_pending <- v`. -/
def State.setImePending (s : State) (v : Bool) : State := { s with cpu := { s.cpu with imePending := v } }

/-- `halted <- v`. -/
def State.setHalted (s : State) (v : Bool) : State := { s with cpu := { s.cpu with halted := v } }

/-- `halt_bug_latch <- v`. -/
def State.setHaltBugLatch (s : State) (v : Bool) : State := { s with cpu := { s.cpu with haltBugLatch := v } }

/-- The T-cycle count the CPU step returns (R286). -/
def State.spend (s : State) (n : Nat) : State := { s with cycles := n }

/-- BC, high byte first (R22). -/
def State.bc (s : State) : Word := joinBytes s.cpu.b s.cpu.c

/-- DE (R22). -/
def State.de (s : State) : Word := joinBytes s.cpu.d s.cpu.e

/-- HL (R22). -/
def State.hl (s : State) : Word := joinBytes s.cpu.h s.cpu.l

/-- `rp[p]` (R114). -/
def State.pair (s : State) (p : Rp) : Word :=
  match p with
  | .bc => s.bc
  | .de => s.de
  | .hl => s.hl
  | .sp => s.cpu.sp

/-- `rp[p] <- v` (R8, R114). -/
def State.setPair (s : State) (p : Rp) (v : Word) : State :=
  match p with
  | .bc => { s with cpu := { s.cpu with b := hiByte v, c := loByte v } }
  | .de => { s with cpu := { s.cpu with d := hiByte v, e := loByte v } }
  | .hl => { s with cpu := { s.cpu with h := hiByte v, l := loByte v } }
  | .sp => s.setSp v

/-- `rp2[p]` (R114). `PUSH AF` pushes F with its low nibble zero (44_control_stack.md R254). -/
def State.pair2 (s : State) (p : Rp2) : Word :=
  match p with
  | .bc => s.bc
  | .de => s.de
  | .hl => s.hl
  | .af => joinBytes s.cpu.a (maskFlags s.cpu.f)

/-- `rp2[p] <- v`; `AF <- v` masks F's low nibble (R8, 44_control_stack.md R255). -/
def State.setPair2 (s : State) (p : Rp2) (v : Word) : State :=
  match p with
  | .bc => s.setPair .bc v
  | .de => s.setPair .de v
  | .hl => s.setPair .hl v
  | .af => (s.setReg .a (hiByte v)).setF (loByte v)

/-- `cond(c)` (44_control_stack.md R242, R115). -/
def State.cond (s : State) (cc : Cond) : Bool :=
  match cc with
  | .nz => !flagZ s.cpu.f
  | .z => flagZ s.cpu.f
  | .nc => !flagC s.cpu.f
  | .c => flagC s.cpu.f

/-- `Push16(v)` (R240): the high byte at SP-1 first, then the low byte at SP-2. -/
def push16 (v : Word) (s : State) : State :=
  let s1 := s.setSp (s.cpu.sp - 1#16)
  let s2 := memWrite s1 s1.cpu.sp (hiByte v)
  let s3 := s2.setSp (s2.cpu.sp - 1#16)
  memWrite s3 s3.cpu.sp (loByte v)

/-- The value `Pop16()` returns (R241): the low byte at SP, the high byte at SP+1. A read has no side effect
(20_memory.md R62). -/
def popValue (s : State) : Word := joinBytes (memRead s (s.cpu.sp + 1#16)) (memRead s s.cpu.sp)

/-- What `Pop16()` leaves (R241): SP increased by 2. -/
def popped (s : State) : State := s.setSp (s.cpu.sp + 2#16)

/-- `Dispatch(pend)` for the source `i`, the one trap of the machine (R282, 60_exceptions.md R354): IME and the EI latch
cleared, the source's IF bit cleared, PC pushed, PC at the vector, 20 T-cycles. -/
def takeInterrupt (i : Source) (s : State) : State :=
  let s1 := (s.setIme false).setImePending false
  let s2 := { s1 with intr := { s1.intr with flags := s1.intr.flags &&& ~~~i.mask } }
  ((push16 s2.cpu.pc s2).setPc i.vector).spend Config.dispatchCycles

/-- The return from an interrupt (44_control_stack.md R252, 60_exceptions.md R356): PC popped, IME set at once. -/
def returnFromInterrupt (s : State) : State := ((popped s).setPc (popValue s)).setIme true

/-- `raise IllegalOpcode(op)` (45_system.md R266): the sticky flag and the opcode; it does not stop execution. -/
def raiseIllegal (op : Byte) (s : State) : State :=
  { s with cpu := { s.cpu with illegalSeen := true, illegalOp := op } }

/-- How a meaning ends: the next state with the step's T-cycle count (R286). -/
def complete (n : Nat) (s : State) : Result := .next (s.spend n)

end Sys2Proof.Machine
end

