-- ==== Sys2Proof/Machine/Operands.lean ====
section
/-! DEFINITION. The 8-bit operand forms: a register, the byte at HL, an immediate (spec 30_encoding.md R113,
40_alu8.md R142), and what each costs. -/

namespace Sys2Proof.Machine

/-- `Get8(i)` (R113): the register, or `MemRead(HL, 1)`. -/
def get8 (x : Loc8) (s : State) : Byte :=
  match x with
  | .reg r => s.reg r
  | .mhl => memRead s s.hl

/-- `Set8(i, v)` (R113): the register, or `MemWrite(HL, 1, v)`. -/
def set8 (x : Loc8) (v : Byte) (s : State) : State :=
  match x with
  | .reg r => s.setReg r v
  | .mhl => memWrite s s.hl v

/-- The operand `x` of the two-operand ALU instructions (R142); an immediate has been fetched with the instruction. -/
def operand8 (x : Operand8) (s : State) : Byte :=
  match x with
  | .loc y => get8 y s
  | .imm v => v

/-- T-cycles of the two-operand ALU instructions (R142). -/
def operand8Cycles (x : Operand8) : Nat :=
  match x with
  | .loc (.reg _) => 4
  | .loc .mhl => 8
  | .imm _ => 8

/-- A T-cycle count that depends only on whether the location is a register or (HL). -/
def locCycles (x : Loc8) (register memory : Nat) : Nat :=
  match x with
  | .reg _ => register
  | .mhl => memory

end Sys2Proof.Machine
end

