-- ==== Sys2Proof/Machine/Alu16.lean ====
section
/-! DEFINITION. The meanings of the 16-bit arithmetic instructions (spec 41_alu16.md). -/

namespace Sys2Proof.Machine

/-- `ADD HL,rr` (R170). -/
def addHlPair (p : Rp) (s : State) : Result :=
  let r := addHl16 s.hl (s.pair p) s.cpu.f
  complete 8 ((s.setPair .hl r.res).setF r.flags)

/-- `INC rr` and `DEC rr` (R171, R172): the pair plus 1 or plus 0xFFFF, modulo 2^16; no flag. -/
def stepPair (p : Rp) (d : Word) (s : State) : Result := complete 8 (s.setPair p (s.pair p + d))

/-- INC BC (R171). -/
def exec_inc_bc (s : State) : Result := stepPair .bc 1#16 s

/-- ADD HL,BC (R170). -/
def exec_add_hl_bc (s : State) : Result := addHlPair .bc s

/-- DEC BC (R172). -/
def exec_dec_bc (s : State) : Result := stepPair .bc 0xFFFF#16 s

/-- INC DE (R171). -/
def exec_inc_de (s : State) : Result := stepPair .de 1#16 s

/-- ADD HL,DE (R170). -/
def exec_add_hl_de (s : State) : Result := addHlPair .de s

/-- DEC DE (R172). -/
def exec_dec_de (s : State) : Result := stepPair .de 0xFFFF#16 s

/-- INC HL (R171). -/
def exec_inc_hl (s : State) : Result := stepPair .hl 1#16 s

/-- ADD HL,HL (R170). -/
def exec_add_hl_hl (s : State) : Result := addHlPair .hl s

/-- DEC HL (R172). -/
def exec_dec_hl (s : State) : Result := stepPair .hl 0xFFFF#16 s

/-- INC SP (R171). -/
def exec_inc_sp (s : State) : Result := stepPair .sp 1#16 s

/-- ADD HL,SP (R170). -/
def exec_add_hl_sp (s : State) : Result := addHlPair .sp s

/-- DEC SP (R172). -/
def exec_dec_sp (s : State) : Result := stepPair .sp 0xFFFF#16 s

/-- ADD SP,s8 (R173). -/
def exec_add_sp_s8 (s8 : Byte) (s : State) : Result :=
  let r := addSp16 s.cpu.sp s8
  complete 16 ((s.setSp r.res).setF r.flags)

/-- LD HL,SP+s8 (R174). -/
def exec_ld_hl_sp_s8 (s8 : Byte) (s : State) : Result :=
  let r := addSp16 s.cpu.sp s8
  complete 12 ((s.setPair .hl r.res).setF r.flags)

end Sys2Proof.Machine
end

