-- ==== Sys2Proof/Machine/Alu8.lean ====
section
/-! DEFINITION. The meanings of the 8-bit arithmetic and logic instructions (spec 40_alu8.md). Like every meaning, each
is a function of a state whose PC is already past the whole instruction (44_control_stack.md, introduction; assumption
log 9), and leaves the instruction's T-cycle count in `cycles`. -/

namespace Sys2Proof.Machine

/-- `A <- res` and the flags. -/
def State.setResultA (s : State) (r : Flagged) : State := (s.setReg .a r.res).setF r.flags

/-- `alu[y] A,x` (R142, R145 to R152): CP writes the flags and not A. -/
def aluA (op : AluOp) (x : Operand8) (s : State) : Result :=
  let r := alu8 op s.cpu.a (operand8 x s) s.cpu.f
  complete (operand8Cycles x) (if op = .cp then s.setF r.flags else s.setResultA r)

/-- `INC` of an 8-bit location (R143): one read, one write. -/
def incAt (x : Loc8) (s : State) : Result :=
  let r := inc8 (get8 x s) s.cpu.f
  complete (locCycles x 4 12) ((set8 x r.res s).setF r.flags)

/-- `DEC` of an 8-bit location (R144): one read, one write. -/
def decAt (x : Loc8) (s : State) : Result :=
  let r := dec8 (get8 x s) s.cpu.f
  complete (locCycles x 4 12) ((set8 x r.res s).setF r.flags)

/-- INC B (R143). -/
def exec_inc_b (s : State) : Result := incAt (.reg .b) s

/-- DEC B (R144). -/
def exec_dec_b (s : State) : Result := decAt (.reg .b) s

/-- INC C (R143). -/
def exec_inc_c (s : State) : Result := incAt (.reg .c) s

/-- DEC C (R144). -/
def exec_dec_c (s : State) : Result := decAt (.reg .c) s

/-- INC D (R143). -/
def exec_inc_d (s : State) : Result := incAt (.reg .d) s

/-- DEC D (R144). -/
def exec_dec_d (s : State) : Result := decAt (.reg .d) s

/-- INC E (R143). -/
def exec_inc_e (s : State) : Result := incAt (.reg .e) s

/-- DEC E (R144). -/
def exec_dec_e (s : State) : Result := decAt (.reg .e) s

/-- INC H (R143). -/
def exec_inc_h (s : State) : Result := incAt (.reg .h) s

/-- DEC H (R144). -/
def exec_dec_h (s : State) : Result := decAt (.reg .h) s

/-- DAA (R153). -/
def exec_daa (s : State) : Result := complete 4 (s.setResultA (daa8 s.cpu.a s.cpu.f))

/-- INC L (R143). -/
def exec_inc_l (s : State) : Result := incAt (.reg .l) s

/-- DEC L (R144). -/
def exec_dec_l (s : State) : Result := decAt (.reg .l) s

/-- CPL (R154). -/
def exec_cpl (s : State) : Result := complete 4 (s.setResultA (cpl8 s.cpu.a s.cpu.f))

/-- INC (HL) (R143). -/
def exec_inc_mhl (s : State) : Result := incAt .mhl s

/-- DEC (HL) (R144). -/
def exec_dec_mhl (s : State) : Result := decAt .mhl s

/-- SCF (R155). -/
def exec_scf (s : State) : Result := complete 4 (s.setF (scfFlags s.cpu.f))

/-- INC A (R143). -/
def exec_inc_a (s : State) : Result := incAt (.reg .a) s

/-- DEC A (R144). -/
def exec_dec_a (s : State) : Result := decAt (.reg .a) s

/-- CCF (R156). -/
def exec_ccf (s : State) : Result := complete 4 (s.setF (ccfFlags s.cpu.f))

/-- ADD A,B (R145). -/
def exec_add_a_b (s : State) : Result := aluA .add (.loc (.reg .b)) s

/-- ADD A,C (R145). -/
def exec_add_a_c (s : State) : Result := aluA .add (.loc (.reg .c)) s

/-- ADD A,D (R145). -/
def exec_add_a_d (s : State) : Result := aluA .add (.loc (.reg .d)) s

/-- ADD A,E (R145). -/
def exec_add_a_e (s : State) : Result := aluA .add (.loc (.reg .e)) s

/-- ADD A,H (R145). -/
def exec_add_a_h (s : State) : Result := aluA .add (.loc (.reg .h)) s

/-- ADD A,L (R145). -/
def exec_add_a_l (s : State) : Result := aluA .add (.loc (.reg .l)) s

/-- ADD A,(HL) (R145). -/
def exec_add_a_mhl (s : State) : Result := aluA .add (.loc .mhl) s

/-- ADD A,A (R145). -/
def exec_add_a_a (s : State) : Result := aluA .add (.loc (.reg .a)) s

/-- ADC A,B (R146). -/
def exec_adc_a_b (s : State) : Result := aluA .adc (.loc (.reg .b)) s

/-- ADC A,C (R146). -/
def exec_adc_a_c (s : State) : Result := aluA .adc (.loc (.reg .c)) s

/-- ADC A,D (R146). -/
def exec_adc_a_d (s : State) : Result := aluA .adc (.loc (.reg .d)) s

/-- ADC A,E (R146). -/
def exec_adc_a_e (s : State) : Result := aluA .adc (.loc (.reg .e)) s

/-- ADC A,H (R146). -/
def exec_adc_a_h (s : State) : Result := aluA .adc (.loc (.reg .h)) s

/-- ADC A,L (R146). -/
def exec_adc_a_l (s : State) : Result := aluA .adc (.loc (.reg .l)) s

/-- ADC A,(HL) (R146). -/
def exec_adc_a_mhl (s : State) : Result := aluA .adc (.loc .mhl) s

/-- ADC A,A (R146). -/
def exec_adc_a_a (s : State) : Result := aluA .adc (.loc (.reg .a)) s

/-- SUB B (R147). -/
def exec_sub_b (s : State) : Result := aluA .sub (.loc (.reg .b)) s

/-- SUB C (R147). -/
def exec_sub_c (s : State) : Result := aluA .sub (.loc (.reg .c)) s

/-- SUB D (R147). -/
def exec_sub_d (s : State) : Result := aluA .sub (.loc (.reg .d)) s

/-- SUB E (R147). -/
def exec_sub_e (s : State) : Result := aluA .sub (.loc (.reg .e)) s

/-- SUB H (R147). -/
def exec_sub_h (s : State) : Result := aluA .sub (.loc (.reg .h)) s

/-- SUB L (R147). -/
def exec_sub_l (s : State) : Result := aluA .sub (.loc (.reg .l)) s

/-- SUB (HL) (R147). -/
def exec_sub_mhl (s : State) : Result := aluA .sub (.loc .mhl) s

/-- SUB A (R147). -/
def exec_sub_a (s : State) : Result := aluA .sub (.loc (.reg .a)) s

/-- SBC A,B (R148). -/
def exec_sbc_a_b (s : State) : Result := aluA .sbc (.loc (.reg .b)) s

/-- SBC A,C (R148). -/
def exec_sbc_a_c (s : State) : Result := aluA .sbc (.loc (.reg .c)) s

/-- SBC A,D (R148). -/
def exec_sbc_a_d (s : State) : Result := aluA .sbc (.loc (.reg .d)) s

/-- SBC A,E (R148). -/
def exec_sbc_a_e (s : State) : Result := aluA .sbc (.loc (.reg .e)) s

/-- SBC A,H (R148). -/
def exec_sbc_a_h (s : State) : Result := aluA .sbc (.loc (.reg .h)) s

/-- SBC A,L (R148). -/
def exec_sbc_a_l (s : State) : Result := aluA .sbc (.loc (.reg .l)) s

/-- SBC A,(HL) (R148). -/
def exec_sbc_a_mhl (s : State) : Result := aluA .sbc (.loc .mhl) s

/-- SBC A,A (R148). -/
def exec_sbc_a_a (s : State) : Result := aluA .sbc (.loc (.reg .a)) s

/-- AND B (R149). -/
def exec_and_b (s : State) : Result := aluA .and (.loc (.reg .b)) s

/-- AND C (R149). -/
def exec_and_c (s : State) : Result := aluA .and (.loc (.reg .c)) s

/-- AND D (R149). -/
def exec_and_d (s : State) : Result := aluA .and (.loc (.reg .d)) s

/-- AND E (R149). -/
def exec_and_e (s : State) : Result := aluA .and (.loc (.reg .e)) s

/-- AND H (R149). -/
def exec_and_h (s : State) : Result := aluA .and (.loc (.reg .h)) s

/-- AND L (R149). -/
def exec_and_l (s : State) : Result := aluA .and (.loc (.reg .l)) s

/-- AND (HL) (R149). -/
def exec_and_mhl (s : State) : Result := aluA .and (.loc .mhl) s

/-- AND A (R149). -/
def exec_and_a (s : State) : Result := aluA .and (.loc (.reg .a)) s

/-- XOR B (R150). -/
def exec_xor_b (s : State) : Result := aluA .xor (.loc (.reg .b)) s

/-- XOR C (R150). -/
def exec_xor_c (s : State) : Result := aluA .xor (.loc (.reg .c)) s

/-- XOR D (R150). -/
def exec_xor_d (s : State) : Result := aluA .xor (.loc (.reg .d)) s

/-- XOR E (R150). -/
def exec_xor_e (s : State) : Result := aluA .xor (.loc (.reg .e)) s

/-- XOR H (R150). -/
def exec_xor_h (s : State) : Result := aluA .xor (.loc (.reg .h)) s

/-- XOR L (R150). -/
def exec_xor_l (s : State) : Result := aluA .xor (.loc (.reg .l)) s

/-- XOR (HL) (R150). -/
def exec_xor_mhl (s : State) : Result := aluA .xor (.loc .mhl) s

/-- XOR A (R150). -/
def exec_xor_a (s : State) : Result := aluA .xor (.loc (.reg .a)) s

/-- OR B (R151). -/
def exec_or_b (s : State) : Result := aluA .or (.loc (.reg .b)) s

/-- OR C (R151). -/
def exec_or_c (s : State) : Result := aluA .or (.loc (.reg .c)) s

/-- OR D (R151). -/
def exec_or_d (s : State) : Result := aluA .or (.loc (.reg .d)) s

/-- OR E (R151). -/
def exec_or_e (s : State) : Result := aluA .or (.loc (.reg .e)) s

/-- OR H (R151). -/
def exec_or_h (s : State) : Result := aluA .or (.loc (.reg .h)) s

/-- OR L (R151). -/
def exec_or_l (s : State) : Result := aluA .or (.loc (.reg .l)) s

/-- OR (HL) (R151). -/
def exec_or_mhl (s : State) : Result := aluA .or (.loc .mhl) s

/-- OR A (R151). -/
def exec_or_a (s : State) : Result := aluA .or (.loc (.reg .a)) s

/-- CP B (R152). -/
def exec_cp_b (s : State) : Result := aluA .cp (.loc (.reg .b)) s

/-- CP C (R152). -/
def exec_cp_c (s : State) : Result := aluA .cp (.loc (.reg .c)) s

/-- CP D (R152). -/
def exec_cp_d (s : State) : Result := aluA .cp (.loc (.reg .d)) s

/-- CP E (R152). -/
def exec_cp_e (s : State) : Result := aluA .cp (.loc (.reg .e)) s

/-- CP H (R152). -/
def exec_cp_h (s : State) : Result := aluA .cp (.loc (.reg .h)) s

/-- CP L (R152). -/
def exec_cp_l (s : State) : Result := aluA .cp (.loc (.reg .l)) s

/-- CP (HL) (R152). -/
def exec_cp_mhl (s : State) : Result := aluA .cp (.loc .mhl) s

/-- CP A (R152). -/
def exec_cp_a (s : State) : Result := aluA .cp (.loc (.reg .a)) s

/-- ADD A,d8 (R145). -/
def exec_add_a_d8 (d8 : Byte) (s : State) : Result := aluA .add (.imm d8) s

/-- ADC A,d8 (R146). -/
def exec_adc_a_d8 (d8 : Byte) (s : State) : Result := aluA .adc (.imm d8) s

/-- SUB d8 (R147). -/
def exec_sub_d8 (d8 : Byte) (s : State) : Result := aluA .sub (.imm d8) s

/-- SBC A,d8 (R148). -/
def exec_sbc_a_d8 (d8 : Byte) (s : State) : Result := aluA .sbc (.imm d8) s

/-- AND d8 (R149). -/
def exec_and_d8 (d8 : Byte) (s : State) : Result := aluA .and (.imm d8) s

/-- XOR d8 (R150). -/
def exec_xor_d8 (d8 : Byte) (s : State) : Result := aluA .xor (.imm d8) s

/-- OR d8 (R151). -/
def exec_or_d8 (d8 : Byte) (s : State) : Result := aluA .or (.imm d8) s

/-- CP d8 (R152). -/
def exec_cp_d8 (d8 : Byte) (s : State) : Result := aluA .cp (.imm d8) s

end Sys2Proof.Machine
end

