-- ==== Sys2Proof/Machine/BitOps.lean ====
section
/-! DEFINITION. The meanings of BIT, RES and SET (spec 42_rotate_shift_bit.md R193 to R195). -/

namespace Sys2Proof.Machine

/-- `BIT n,r` (R193): one read, no write of the operand. -/
def bitAt (n : Index8) (x : Loc8) (s : State) : Result :=
  complete (locCycles x 8 12) (s.setF (bitFlags n (get8 x s) s.cpu.f))

/-- `RES n,r` (R194): one read, one write, no flag. -/
def resAt (n : Index8) (x : Loc8) (s : State) : Result :=
  complete (locCycles x 8 16) (set8 x (resBit n (get8 x s)) s)

/-- `SET n,r` (R195): one read, one write, no flag. -/
def setAt (n : Index8) (x : Loc8) (s : State) : Result :=
  complete (locCycles x 8 16) (set8 x (setBit n (get8 x s)) s)

/-- BIT 0,B (R193). -/
def exec_bit_0_b (s : State) : Result := bitAt .i0 (.reg .b) s

/-- BIT 0,C (R193). -/
def exec_bit_0_c (s : State) : Result := bitAt .i0 (.reg .c) s

/-- BIT 0,D (R193). -/
def exec_bit_0_d (s : State) : Result := bitAt .i0 (.reg .d) s

/-- BIT 0,E (R193). -/
def exec_bit_0_e (s : State) : Result := bitAt .i0 (.reg .e) s

/-- BIT 0,H (R193). -/
def exec_bit_0_h (s : State) : Result := bitAt .i0 (.reg .h) s

/-- BIT 0,L (R193). -/
def exec_bit_0_l (s : State) : Result := bitAt .i0 (.reg .l) s

/-- BIT 0,(HL) (R193). -/
def exec_bit_0_mhl (s : State) : Result := bitAt .i0 .mhl s

/-- BIT 0,A (R193). -/
def exec_bit_0_a (s : State) : Result := bitAt .i0 (.reg .a) s

/-- BIT 1,B (R193). -/
def exec_bit_1_b (s : State) : Result := bitAt .i1 (.reg .b) s

/-- BIT 1,C (R193). -/
def exec_bit_1_c (s : State) : Result := bitAt .i1 (.reg .c) s

/-- BIT 1,D (R193). -/
def exec_bit_1_d (s : State) : Result := bitAt .i1 (.reg .d) s

/-- BIT 1,E (R193). -/
def exec_bit_1_e (s : State) : Result := bitAt .i1 (.reg .e) s

/-- BIT 1,H (R193). -/
def exec_bit_1_h (s : State) : Result := bitAt .i1 (.reg .h) s

/-- BIT 1,L (R193). -/
def exec_bit_1_l (s : State) : Result := bitAt .i1 (.reg .l) s

/-- BIT 1,(HL) (R193). -/
def exec_bit_1_mhl (s : State) : Result := bitAt .i1 .mhl s

/-- BIT 1,A (R193). -/
def exec_bit_1_a (s : State) : Result := bitAt .i1 (.reg .a) s

/-- BIT 2,B (R193). -/
def exec_bit_2_b (s : State) : Result := bitAt .i2 (.reg .b) s

/-- BIT 2,C (R193). -/
def exec_bit_2_c (s : State) : Result := bitAt .i2 (.reg .c) s

/-- BIT 2,D (R193). -/
def exec_bit_2_d (s : State) : Result := bitAt .i2 (.reg .d) s

/-- BIT 2,E (R193). -/
def exec_bit_2_e (s : State) : Result := bitAt .i2 (.reg .e) s

/-- BIT 2,H (R193). -/
def exec_bit_2_h (s : State) : Result := bitAt .i2 (.reg .h) s

/-- BIT 2,L (R193). -/
def exec_bit_2_l (s : State) : Result := bitAt .i2 (.reg .l) s

/-- BIT 2,(HL) (R193). -/
def exec_bit_2_mhl (s : State) : Result := bitAt .i2 .mhl s

/-- BIT 2,A (R193). -/
def exec_bit_2_a (s : State) : Result := bitAt .i2 (.reg .a) s

/-- BIT 3,B (R193). -/
def exec_bit_3_b (s : State) : Result := bitAt .i3 (.reg .b) s

/-- BIT 3,C (R193). -/
def exec_bit_3_c (s : State) : Result := bitAt .i3 (.reg .c) s

/-- BIT 3,D (R193). -/
def exec_bit_3_d (s : State) : Result := bitAt .i3 (.reg .d) s

/-- BIT 3,E (R193). -/
def exec_bit_3_e (s : State) : Result := bitAt .i3 (.reg .e) s

/-- BIT 3,H (R193). -/
def exec_bit_3_h (s : State) : Result := bitAt .i3 (.reg .h) s

/-- BIT 3,L (R193). -/
def exec_bit_3_l (s : State) : Result := bitAt .i3 (.reg .l) s

/-- BIT 3,(HL) (R193). -/
def exec_bit_3_mhl (s : State) : Result := bitAt .i3 .mhl s

/-- BIT 3,A (R193). -/
def exec_bit_3_a (s : State) : Result := bitAt .i3 (.reg .a) s

/-- BIT 4,B (R193). -/
def exec_bit_4_b (s : State) : Result := bitAt .i4 (.reg .b) s

/-- BIT 4,C (R193). -/
def exec_bit_4_c (s : State) : Result := bitAt .i4 (.reg .c) s

/-- BIT 4,D (R193). -/
def exec_bit_4_d (s : State) : Result := bitAt .i4 (.reg .d) s

/-- BIT 4,E (R193). -/
def exec_bit_4_e (s : State) : Result := bitAt .i4 (.reg .e) s

/-- BIT 4,H (R193). -/
def exec_bit_4_h (s : State) : Result := bitAt .i4 (.reg .h) s

/-- BIT 4,L (R193). -/
def exec_bit_4_l (s : State) : Result := bitAt .i4 (.reg .l) s

/-- BIT 4,(HL) (R193). -/
def exec_bit_4_mhl (s : State) : Result := bitAt .i4 .mhl s

/-- BIT 4,A (R193). -/
def exec_bit_4_a (s : State) : Result := bitAt .i4 (.reg .a) s

/-- BIT 5,B (R193). -/
def exec_bit_5_b (s : State) : Result := bitAt .i5 (.reg .b) s

/-- BIT 5,C (R193). -/
def exec_bit_5_c (s : State) : Result := bitAt .i5 (.reg .c) s

/-- BIT 5,D (R193). -/
def exec_bit_5_d (s : State) : Result := bitAt .i5 (.reg .d) s

/-- BIT 5,E (R193). -/
def exec_bit_5_e (s : State) : Result := bitAt .i5 (.reg .e) s

/-- BIT 5,H (R193). -/
def exec_bit_5_h (s : State) : Result := bitAt .i5 (.reg .h) s

/-- BIT 5,L (R193). -/
def exec_bit_5_l (s : State) : Result := bitAt .i5 (.reg .l) s

/-- BIT 5,(HL) (R193). -/
def exec_bit_5_mhl (s : State) : Result := bitAt .i5 .mhl s

/-- BIT 5,A (R193). -/
def exec_bit_5_a (s : State) : Result := bitAt .i5 (.reg .a) s

/-- BIT 6,B (R193). -/
def exec_bit_6_b (s : State) : Result := bitAt .i6 (.reg .b) s

/-- BIT 6,C (R193). -/
def exec_bit_6_c (s : State) : Result := bitAt .i6 (.reg .c) s

/-- BIT 6,D (R193). -/
def exec_bit_6_d (s : State) : Result := bitAt .i6 (.reg .d) s

/-- BIT 6,E (R193). -/
def exec_bit_6_e (s : State) : Result := bitAt .i6 (.reg .e) s

/-- BIT 6,H (R193). -/
def exec_bit_6_h (s : State) : Result := bitAt .i6 (.reg .h) s

/-- BIT 6,L (R193). -/
def exec_bit_6_l (s : State) : Result := bitAt .i6 (.reg .l) s

/-- BIT 6,(HL) (R193). -/
def exec_bit_6_mhl (s : State) : Result := bitAt .i6 .mhl s

/-- BIT 6,A (R193). -/
def exec_bit_6_a (s : State) : Result := bitAt .i6 (.reg .a) s

/-- BIT 7,B (R193). -/
def exec_bit_7_b (s : State) : Result := bitAt .i7 (.reg .b) s

/-- BIT 7,C (R193). -/
def exec_bit_7_c (s : State) : Result := bitAt .i7 (.reg .c) s

/-- BIT 7,D (R193). -/
def exec_bit_7_d (s : State) : Result := bitAt .i7 (.reg .d) s

/-- BIT 7,E (R193). -/
def exec_bit_7_e (s : State) : Result := bitAt .i7 (.reg .e) s

/-- BIT 7,H (R193). -/
def exec_bit_7_h (s : State) : Result := bitAt .i7 (.reg .h) s

/-- BIT 7,L (R193). -/
def exec_bit_7_l (s : State) : Result := bitAt .i7 (.reg .l) s

/-- BIT 7,(HL) (R193). -/
def exec_bit_7_mhl (s : State) : Result := bitAt .i7 .mhl s

/-- BIT 7,A (R193). -/
def exec_bit_7_a (s : State) : Result := bitAt .i7 (.reg .a) s

/-- RES 0,B (R194). -/
def exec_res_0_b (s : State) : Result := resAt .i0 (.reg .b) s

/-- RES 0,C (R194). -/
def exec_res_0_c (s : State) : Result := resAt .i0 (.reg .c) s

/-- RES 0,D (R194). -/
def exec_res_0_d (s : State) : Result := resAt .i0 (.reg .d) s

/-- RES 0,E (R194). -/
def exec_res_0_e (s : State) : Result := resAt .i0 (.reg .e) s

/-- RES 0,H (R194). -/
def exec_res_0_h (s : State) : Result := resAt .i0 (.reg .h) s

/-- RES 0,L (R194). -/
def exec_res_0_l (s : State) : Result := resAt .i0 (.reg .l) s

/-- RES 0,(HL) (R194). -/
def exec_res_0_mhl (s : State) : Result := resAt .i0 .mhl s

/-- RES 0,A (R194). -/
def exec_res_0_a (s : State) : Result := resAt .i0 (.reg .a) s

/-- RES 1,B (R194). -/
def exec_res_1_b (s : State) : Result := resAt .i1 (.reg .b) s

/-- RES 1,C (R194). -/
def exec_res_1_c (s : State) : Result := resAt .i1 (.reg .c) s

/-- RES 1,D (R194). -/
def exec_res_1_d (s : State) : Result := resAt .i1 (.reg .d) s

/-- RES 1,E (R194). -/
def exec_res_1_e (s : State) : Result := resAt .i1 (.reg .e) s

/-- RES 1,H (R194). -/
def exec_res_1_h (s : State) : Result := resAt .i1 (.reg .h) s

/-- RES 1,L (R194). -/
def exec_res_1_l (s : State) : Result := resAt .i1 (.reg .l) s

/-- RES 1,(HL) (R194). -/
def exec_res_1_mhl (s : State) : Result := resAt .i1 .mhl s

/-- RES 1,A (R194). -/
def exec_res_1_a (s : State) : Result := resAt .i1 (.reg .a) s

/-- RES 2,B (R194). -/
def exec_res_2_b (s : State) : Result := resAt .i2 (.reg .b) s

/-- RES 2,C (R194). -/
def exec_res_2_c (s : State) : Result := resAt .i2 (.reg .c) s

/-- RES 2,D (R194). -/
def exec_res_2_d (s : State) : Result := resAt .i2 (.reg .d) s

/-- RES 2,E (R194). -/
def exec_res_2_e (s : State) : Result := resAt .i2 (.reg .e) s

/-- RES 2,H (R194). -/
def exec_res_2_h (s : State) : Result := resAt .i2 (.reg .h) s

/-- RES 2,L (R194). -/
def exec_res_2_l (s : State) : Result := resAt .i2 (.reg .l) s

/-- RES 2,(HL) (R194). -/
def exec_res_2_mhl (s : State) : Result := resAt .i2 .mhl s

/-- RES 2,A (R194). -/
def exec_res_2_a (s : State) : Result := resAt .i2 (.reg .a) s

/-- RES 3,B (R194). -/
def exec_res_3_b (s : State) : Result := resAt .i3 (.reg .b) s

/-- RES 3,C (R194). -/
def exec_res_3_c (s : State) : Result := resAt .i3 (.reg .c) s

/-- RES 3,D (R194). -/
def exec_res_3_d (s : State) : Result := resAt .i3 (.reg .d) s

/-- RES 3,E (R194). -/
def exec_res_3_e (s : State) : Result := resAt .i3 (.reg .e) s

/-- RES 3,H (R194). -/
def exec_res_3_h (s : State) : Result := resAt .i3 (.reg .h) s

/-- RES 3,L (R194). -/
def exec_res_3_l (s : State) : Result := resAt .i3 (.reg .l) s

/-- RES 3,(HL) (R194). -/
def exec_res_3_mhl (s : State) : Result := resAt .i3 .mhl s

/-- RES 3,A (R194). -/
def exec_res_3_a (s : State) : Result := resAt .i3 (.reg .a) s

/-- RES 4,B (R194). -/
def exec_res_4_b (s : State) : Result := resAt .i4 (.reg .b) s

/-- RES 4,C (R194). -/
def exec_res_4_c (s : State) : Result := resAt .i4 (.reg .c) s

/-- RES 4,D (R194). -/
def exec_res_4_d (s : State) : Result := resAt .i4 (.reg .d) s

/-- RES 4,E (R194). -/
def exec_res_4_e (s : State) : Result := resAt .i4 (.reg .e) s

/-- RES 4,H (R194). -/
def exec_res_4_h (s : State) : Result := resAt .i4 (.reg .h) s

/-- RES 4,L (R194). -/
def exec_res_4_l (s : State) : Result := resAt .i4 (.reg .l) s

/-- RES 4,(HL) (R194). -/
def exec_res_4_mhl (s : State) : Result := resAt .i4 .mhl s

/-- RES 4,A (R194). -/
def exec_res_4_a (s : State) : Result := resAt .i4 (.reg .a) s

/-- RES 5,B (R194). -/
def exec_res_5_b (s : State) : Result := resAt .i5 (.reg .b) s

/-- RES 5,C (R194). -/
def exec_res_5_c (s : State) : Result := resAt .i5 (.reg .c) s

/-- RES 5,D (R194). -/
def exec_res_5_d (s : State) : Result := resAt .i5 (.reg .d) s

/-- RES 5,E (R194). -/
def exec_res_5_e (s : State) : Result := resAt .i5 (.reg .e) s

/-- RES 5,H (R194). -/
def exec_res_5_h (s : State) : Result := resAt .i5 (.reg .h) s

/-- RES 5,L (R194). -/
def exec_res_5_l (s : State) : Result := resAt .i5 (.reg .l) s

/-- RES 5,(HL) (R194). -/
def exec_res_5_mhl (s : State) : Result := resAt .i5 .mhl s

/-- RES 5,A (R194). -/
def exec_res_5_a (s : State) : Result := resAt .i5 (.reg .a) s

/-- RES 6,B (R194). -/
def exec_res_6_b (s : State) : Result := resAt .i6 (.reg .b) s

/-- RES 6,C (R194). -/
def exec_res_6_c (s : State) : Result := resAt .i6 (.reg .c) s

/-- RES 6,D (R194). -/
def exec_res_6_d (s : State) : Result := resAt .i6 (.reg .d) s

/-- RES 6,E (R194). -/
def exec_res_6_e (s : State) : Result := resAt .i6 (.reg .e) s

/-- RES 6,H (R194). -/
def exec_res_6_h (s : State) : Result := resAt .i6 (.reg .h) s

/-- RES 6,L (R194). -/
def exec_res_6_l (s : State) : Result := resAt .i6 (.reg .l) s

/-- RES 6,(HL) (R194). -/
def exec_res_6_mhl (s : State) : Result := resAt .i6 .mhl s

/-- RES 6,A (R194). -/
def exec_res_6_a (s : State) : Result := resAt .i6 (.reg .a) s

/-- RES 7,B (R194). -/
def exec_res_7_b (s : State) : Result := resAt .i7 (.reg .b) s

/-- RES 7,C (R194). -/
def exec_res_7_c (s : State) : Result := resAt .i7 (.reg .c) s

/-- RES 7,D (R194). -/
def exec_res_7_d (s : State) : Result := resAt .i7 (.reg .d) s

/-- RES 7,E (R194). -/
def exec_res_7_e (s : State) : Result := resAt .i7 (.reg .e) s

/-- RES 7,H (R194). -/
def exec_res_7_h (s : State) : Result := resAt .i7 (.reg .h) s

/-- RES 7,L (R194). -/
def exec_res_7_l (s : State) : Result := resAt .i7 (.reg .l) s

/-- RES 7,(HL) (R194). -/
def exec_res_7_mhl (s : State) : Result := resAt .i7 .mhl s

/-- RES 7,A (R194). -/
def exec_res_7_a (s : State) : Result := resAt .i7 (.reg .a) s

/-- SET 0,B (R195). -/
def exec_set_0_b (s : State) : Result := setAt .i0 (.reg .b) s

/-- SET 0,C (R195). -/
def exec_set_0_c (s : State) : Result := setAt .i0 (.reg .c) s

/-- SET 0,D (R195). -/
def exec_set_0_d (s : State) : Result := setAt .i0 (.reg .d) s

/-- SET 0,E (R195). -/
def exec_set_0_e (s : State) : Result := setAt .i0 (.reg .e) s

/-- SET 0,H (R195). -/
def exec_set_0_h (s : State) : Result := setAt .i0 (.reg .h) s

/-- SET 0,L (R195). -/
def exec_set_0_l (s : State) : Result := setAt .i0 (.reg .l) s

/-- SET 0,(HL) (R195). -/
def exec_set_0_mhl (s : State) : Result := setAt .i0 .mhl s

/-- SET 0,A (R195). -/
def exec_set_0_a (s : State) : Result := setAt .i0 (.reg .a) s

/-- SET 1,B (R195). -/
def exec_set_1_b (s : State) : Result := setAt .i1 (.reg .b) s

/-- SET 1,C (R195). -/
def exec_set_1_c (s : State) : Result := setAt .i1 (.reg .c) s

/-- SET 1,D (R195). -/
def exec_set_1_d (s : State) : Result := setAt .i1 (.reg .d) s

/-- SET 1,E (R195). -/
def exec_set_1_e (s : State) : Result := setAt .i1 (.reg .e) s

/-- SET 1,H (R195). -/
def exec_set_1_h (s : State) : Result := setAt .i1 (.reg .h) s

/-- SET 1,L (R195). -/
def exec_set_1_l (s : State) : Result := setAt .i1 (.reg .l) s

/-- SET 1,(HL) (R195). -/
def exec_set_1_mhl (s : State) : Result := setAt .i1 .mhl s

/-- SET 1,A (R195). -/
def exec_set_1_a (s : State) : Result := setAt .i1 (.reg .a) s

/-- SET 2,B (R195). -/
def exec_set_2_b (s : State) : Result := setAt .i2 (.reg .b) s

/-- SET 2,C (R195). -/
def exec_set_2_c (s : State) : Result := setAt .i2 (.reg .c) s

/-- SET 2,D (R195). -/
def exec_set_2_d (s : State) : Result := setAt .i2 (.reg .d) s

/-- SET 2,E (R195). -/
def exec_set_2_e (s : State) : Result := setAt .i2 (.reg .e) s

/-- SET 2,H (R195). -/
def exec_set_2_h (s : State) : Result := setAt .i2 (.reg .h) s

/-- SET 2,L (R195). -/
def exec_set_2_l (s : State) : Result := setAt .i2 (.reg .l) s

/-- SET 2,(HL) (R195). -/
def exec_set_2_mhl (s : State) : Result := setAt .i2 .mhl s

/-- SET 2,A (R195). -/
def exec_set_2_a (s : State) : Result := setAt .i2 (.reg .a) s

/-- SET 3,B (R195). -/
def exec_set_3_b (s : State) : Result := setAt .i3 (.reg .b) s

/-- SET 3,C (R195). -/
def exec_set_3_c (s : State) : Result := setAt .i3 (.reg .c) s

/-- SET 3,D (R195). -/
def exec_set_3_d (s : State) : Result := setAt .i3 (.reg .d) s

/-- SET 3,E (R195). -/
def exec_set_3_e (s : State) : Result := setAt .i3 (.reg .e) s

/-- SET 3,H (R195). -/
def exec_set_3_h (s : State) : Result := setAt .i3 (.reg .h) s

/-- SET 3,L (R195). -/
def exec_set_3_l (s : State) : Result := setAt .i3 (.reg .l) s

/-- SET 3,(HL) (R195). -/
def exec_set_3_mhl (s : State) : Result := setAt .i3 .mhl s

/-- SET 3,A (R195). -/
def exec_set_3_a (s : State) : Result := setAt .i3 (.reg .a) s

/-- SET 4,B (R195). -/
def exec_set_4_b (s : State) : Result := setAt .i4 (.reg .b) s

/-- SET 4,C (R195). -/
def exec_set_4_c (s : State) : Result := setAt .i4 (.reg .c) s

/-- SET 4,D (R195). -/
def exec_set_4_d (s : State) : Result := setAt .i4 (.reg .d) s

/-- SET 4,E (R195). -/
def exec_set_4_e (s : State) : Result := setAt .i4 (.reg .e) s

/-- SET 4,H (R195). -/
def exec_set_4_h (s : State) : Result := setAt .i4 (.reg .h) s

/-- SET 4,L (R195). -/
def exec_set_4_l (s : State) : Result := setAt .i4 (.reg .l) s

/-- SET 4,(HL) (R195). -/
def exec_set_4_mhl (s : State) : Result := setAt .i4 .mhl s

/-- SET 4,A (R195). -/
def exec_set_4_a (s : State) : Result := setAt .i4 (.reg .a) s

/-- SET 5,B (R195). -/
def exec_set_5_b (s : State) : Result := setAt .i5 (.reg .b) s

/-- SET 5,C (R195). -/
def exec_set_5_c (s : State) : Result := setAt .i5 (.reg .c) s

/-- SET 5,D (R195). -/
def exec_set_5_d (s : State) : Result := setAt .i5 (.reg .d) s

/-- SET 5,E (R195). -/
def exec_set_5_e (s : State) : Result := setAt .i5 (.reg .e) s

/-- SET 5,H (R195). -/
def exec_set_5_h (s : State) : Result := setAt .i5 (.reg .h) s

/-- SET 5,L (R195). -/
def exec_set_5_l (s : State) : Result := setAt .i5 (.reg .l) s

/-- SET 5,(HL) (R195). -/
def exec_set_5_mhl (s : State) : Result := setAt .i5 .mhl s

/-- SET 5,A (R195). -/
def exec_set_5_a (s : State) : Result := setAt .i5 (.reg .a) s

/-- SET 6,B (R195). -/
def exec_set_6_b (s : State) : Result := setAt .i6 (.reg .b) s

/-- SET 6,C (R195). -/
def exec_set_6_c (s : State) : Result := setAt .i6 (.reg .c) s

/-- SET 6,D (R195). -/
def exec_set_6_d (s : State) : Result := setAt .i6 (.reg .d) s

/-- SET 6,E (R195). -/
def exec_set_6_e (s : State) : Result := setAt .i6 (.reg .e) s

/-- SET 6,H (R195). -/
def exec_set_6_h (s : State) : Result := setAt .i6 (.reg .h) s

/-- SET 6,L (R195). -/
def exec_set_6_l (s : State) : Result := setAt .i6 (.reg .l) s

/-- SET 6,(HL) (R195). -/
def exec_set_6_mhl (s : State) : Result := setAt .i6 .mhl s

/-- SET 6,A (R195). -/
def exec_set_6_a (s : State) : Result := setAt .i6 (.reg .a) s

/-- SET 7,B (R195). -/
def exec_set_7_b (s : State) : Result := setAt .i7 (.reg .b) s

/-- SET 7,C (R195). -/
def exec_set_7_c (s : State) : Result := setAt .i7 (.reg .c) s

/-- SET 7,D (R195). -/
def exec_set_7_d (s : State) : Result := setAt .i7 (.reg .d) s

/-- SET 7,E (R195). -/
def exec_set_7_e (s : State) : Result := setAt .i7 (.reg .e) s

/-- SET 7,H (R195). -/
def exec_set_7_h (s : State) : Result := setAt .i7 (.reg .h) s

/-- SET 7,L (R195). -/
def exec_set_7_l (s : State) : Result := setAt .i7 (.reg .l) s

/-- SET 7,(HL) (R195). -/
def exec_set_7_mhl (s : State) : Result := setAt .i7 .mhl s

/-- SET 7,A (R195). -/
def exec_set_7_a (s : State) : Result := setAt .i7 (.reg .a) s

end Sys2Proof.Machine
end

