-- ==== Sys2Proof/Machine/Control.lean ====
section
/-! DEFINITION. The meanings of the jumps, calls, returns, restarts, PUSH and POP (spec 44_control_stack.md). PC in each
is the address of the next sequential instruction. -/

namespace Sys2Proof.Machine

/-- The target of a relative jump (R246): PC, already past the operand, plus `sext(e)`. -/
def relTarget (s : State) (e : Byte) : Word := s.cpu.pc + sext16 e

/-- `JR cc,s8` (R247). -/
def jumpRelIf (cc : Cond) (e : Byte) (s : State) : Result :=
  if s.cond cc then complete 12 (s.setPc (relTarget s e)) else complete 8 s

/-- `JP cc,a16` (R244). -/
def jumpIf (cc : Cond) (a : Word) (s : State) : Result :=
  if s.cond cc then complete 16 (s.setPc a) else complete 12 s

/-- `CALL cc,a16` (R249). -/
def callIf (cc : Cond) (a : Word) (s : State) : Result :=
  if s.cond cc then complete 24 ((push16 s.cpu.pc s).setPc a) else complete 12 s

/-- `RET cc` (R251). -/
def returnIf (cc : Cond) (s : State) : Result :=
  if s.cond cc then complete 20 ((popped s).setPc (popValue s)) else complete 8 s

/-- `RST n`, whose target is `8 * y` (R253). -/
def restart (y : Index8) (s : State) : Result :=
  complete 16 ((push16 s.cpu.pc s).setPc (BitVec.ofNat 16 (8 * y.toNat)))

/-- `PUSH rr` (R254). -/
def pushPair (p : Rp2) (s : State) : Result := complete 16 (push16 (s.pair2 p) s)

/-- `POP rr` (R255): `POP AF` masks the low nibble of F. -/
def popPair (p : Rp2) (s : State) : Result := complete 12 ((popped s).setPair2 p (popValue s))

/-- JR s8 (R246). -/
def exec_jr_s8 (s8 : Byte) (s : State) : Result := complete 12 (s.setPc (relTarget s s8))

/-- JR NZ,s8 (R247). -/
def exec_jr_nz_s8 (s8 : Byte) (s : State) : Result := jumpRelIf .nz s8 s

/-- JR Z,s8 (R247). -/
def exec_jr_z_s8 (s8 : Byte) (s : State) : Result := jumpRelIf .z s8 s

/-- JR NC,s8 (R247). -/
def exec_jr_nc_s8 (s8 : Byte) (s : State) : Result := jumpRelIf .nc s8 s

/-- JR C,s8 (R247). -/
def exec_jr_c_s8 (s8 : Byte) (s : State) : Result := jumpRelIf .c s8 s

/-- RET NZ (R251). -/
def exec_ret_nz (s : State) : Result := returnIf .nz s

/-- POP BC (R255). -/
def exec_pop_bc (s : State) : Result := popPair .bc s

/-- JP NZ,a16 (R244). -/
def exec_jp_nz_a16 (a16 : Word) (s : State) : Result := jumpIf .nz a16 s

/-- JP a16 (R243). -/
def exec_jp_a16 (a16 : Word) (s : State) : Result := complete 16 (s.setPc a16)

/-- CALL NZ,a16 (R249). -/
def exec_call_nz_a16 (a16 : Word) (s : State) : Result := callIf .nz a16 s

/-- PUSH BC (R254). -/
def exec_push_bc (s : State) : Result := pushPair .bc s

/-- RST 0x00 (R253). -/
def exec_rst_00 (s : State) : Result := restart .i0 s

/-- RET Z (R251). -/
def exec_ret_z (s : State) : Result := returnIf .z s

/-- RET (R250). -/
def exec_ret (s : State) : Result := complete 16 ((popped s).setPc (popValue s))

/-- JP Z,a16 (R244). -/
def exec_jp_z_a16 (a16 : Word) (s : State) : Result := jumpIf .z a16 s

/-- CALL Z,a16 (R249). -/
def exec_call_z_a16 (a16 : Word) (s : State) : Result := callIf .z a16 s

/-- CALL a16 (R248). -/
def exec_call_a16 (a16 : Word) (s : State) : Result := complete 24 ((push16 s.cpu.pc s).setPc a16)

/-- RST 0x08 (R253). -/
def exec_rst_08 (s : State) : Result := restart .i1 s

/-- RET NC (R251). -/
def exec_ret_nc (s : State) : Result := returnIf .nc s

/-- POP DE (R255). -/
def exec_pop_de (s : State) : Result := popPair .de s

/-- JP NC,a16 (R244). -/
def exec_jp_nc_a16 (a16 : Word) (s : State) : Result := jumpIf .nc a16 s

/-- CALL NC,a16 (R249). -/
def exec_call_nc_a16 (a16 : Word) (s : State) : Result := callIf .nc a16 s

/-- PUSH DE (R254). -/
def exec_push_de (s : State) : Result := pushPair .de s

/-- RST 0x10 (R253). -/
def exec_rst_10 (s : State) : Result := restart .i2 s

/-- RET C (R251). -/
def exec_ret_c (s : State) : Result := returnIf .c s

/-- RETI (R252): the return from an interrupt. -/
def exec_reti (s : State) : Result := complete 16 (returnFromInterrupt s)

/-- JP C,a16 (R244). -/
def exec_jp_c_a16 (a16 : Word) (s : State) : Result := jumpIf .c a16 s

/-- CALL C,a16 (R249). -/
def exec_call_c_a16 (a16 : Word) (s : State) : Result := callIf .c a16 s

/-- RST 0x18 (R253). -/
def exec_rst_18 (s : State) : Result := restart .i3 s

/-- POP HL (R255). -/
def exec_pop_hl (s : State) : Result := popPair .hl s

/-- PUSH HL (R254). -/
def exec_push_hl (s : State) : Result := pushPair .hl s

/-- RST 0x20 (R253). -/
def exec_rst_20 (s : State) : Result := restart .i4 s

/-- JP HL (R245). -/
def exec_jp_hl (s : State) : Result := complete 4 (s.setPc s.hl)

/-- RST 0x28 (R253). -/
def exec_rst_28 (s : State) : Result := restart .i5 s

/-- POP AF (R255). -/
def exec_pop_af (s : State) : Result := popPair .af s

/-- PUSH AF (R254). -/
def exec_push_af (s : State) : Result := pushPair .af s

/-- RST 0x30 (R253). -/
def exec_rst_30 (s : State) : Result := restart .i6 s

/-- RST 0x38 (R253). -/
def exec_rst_38 (s : State) : Result := restart .i7 s

end Sys2Proof.Machine
end

