-- ==== Sys2Proof/Machine/Load.lean ====
section
/-! DEFINITION. The meanings of the loads and stores (spec 43_load.md). No flag is written. -/

namespace Sys2Proof.Machine

/-- A load of a register: the value goes to the register (R200 to R202). -/
def loadReg (n : Nat) (r : Reg8) (v : Byte) (s : State) : Result := complete n (s.setReg r v)

/-- `A <- MemRead(addr, 1)` (R205, R206, R214, R216, R218). -/
def loadAFrom (n : Nat) (addr : Word) (s : State) : Result := complete n (s.setReg .a (memRead s addr))

/-- `MemWrite(addr, 1, v)` (R203, R204, R207, R208, R213, R215, R217). -/
def storeAt (n : Nat) (addr : Word) (v : Byte) (s : State) : Result := complete n (memWrite s addr v)

/-- `LD A,(HL+)` and `LD A,(HL-)` (R209, R210): the read, then HL steps. -/
def loadAStep (d : Word) (s : State) : Result :=
  complete 8 ((s.setReg .a (memRead s s.hl)).setPair .hl (s.hl + d))

/-- `LD (HL+),A` and `LD (HL-),A` (R211, R212): the write, then HL steps. -/
def storeAStep (d : Word) (s : State) : Result :=
  complete 8 ((memWrite s s.hl s.cpu.a).setPair .hl (s.hl + d))

/-- `LD rr,d16` (R219). -/
def loadPair (p : Rp) (v : Word) (s : State) : Result := complete 12 (s.setPair p v)

/-- LD BC,d16 (R219). -/
def exec_ld_bc_d16 (d16 : Word) (s : State) : Result := loadPair .bc d16 s

/-- LD (BC),A (R207). -/
def exec_ld_mbc_a (s : State) : Result := storeAt 8 s.bc s.cpu.a s

/-- LD B,d8 (R201). -/
def exec_ld_b_d8 (d8 : Byte) (s : State) : Result := loadReg 8 .b d8 s

/-- LD (a16),SP (R220): the low byte first, to the lower address. -/
def exec_ld_ma16_sp (a16 : Word) (s : State) : Result :=
  complete 20 (memWrite (memWrite s a16 (loByte s.cpu.sp)) (a16 + 1#16) (hiByte s.cpu.sp))

/-- LD A,(BC) (R205). -/
def exec_ld_a_mbc (s : State) : Result := loadAFrom 8 s.bc s

/-- LD C,d8 (R201). -/
def exec_ld_c_d8 (d8 : Byte) (s : State) : Result := loadReg 8 .c d8 s

/-- LD DE,d16 (R219). -/
def exec_ld_de_d16 (d16 : Word) (s : State) : Result := loadPair .de d16 s

/-- LD (DE),A (R208). -/
def exec_ld_mde_a (s : State) : Result := storeAt 8 s.de s.cpu.a s

/-- LD D,d8 (R201). -/
def exec_ld_d_d8 (d8 : Byte) (s : State) : Result := loadReg 8 .d d8 s

/-- LD A,(DE) (R206). -/
def exec_ld_a_mde (s : State) : Result := loadAFrom 8 s.de s

/-- LD E,d8 (R201). -/
def exec_ld_e_d8 (d8 : Byte) (s : State) : Result := loadReg 8 .e d8 s

/-- LD HL,d16 (R219). -/
def exec_ld_hl_d16 (d16 : Word) (s : State) : Result := loadPair .hl d16 s

/-- LD (HL+),A (R211). -/
def exec_ld_mhli_a (s : State) : Result := storeAStep 1#16 s

/-- LD H,d8 (R201). -/
def exec_ld_h_d8 (d8 : Byte) (s : State) : Result := loadReg 8 .h d8 s

/-- LD A,(HL+) (R209). -/
def exec_ld_a_mhli (s : State) : Result := loadAStep 1#16 s

/-- LD L,d8 (R201). -/
def exec_ld_l_d8 (d8 : Byte) (s : State) : Result := loadReg 8 .l d8 s

/-- LD SP,d16 (R219). -/
def exec_ld_sp_d16 (d16 : Word) (s : State) : Result := loadPair .sp d16 s

/-- LD (HL-),A (R212). -/
def exec_ld_mhld_a (s : State) : Result := storeAStep 0xFFFF#16 s

/-- LD (HL),d8 (R204). -/
def exec_ld_mhl_d8 (d8 : Byte) (s : State) : Result := storeAt 12 s.hl d8 s

/-- LD A,(HL-) (R210). -/
def exec_ld_a_mhld (s : State) : Result := loadAStep 0xFFFF#16 s

/-- LD A,d8 (R201). -/
def exec_ld_a_d8 (d8 : Byte) (s : State) : Result := loadReg 8 .a d8 s

/-- LD B,B (R200). -/
def exec_ld_b_b (s : State) : Result := loadReg 4 .b (s.reg .b) s

/-- LD B,C (R200). -/
def exec_ld_b_c (s : State) : Result := loadReg 4 .b (s.reg .c) s

/-- LD B,D (R200). -/
def exec_ld_b_d (s : State) : Result := loadReg 4 .b (s.reg .d) s

/-- LD B,E (R200). -/
def exec_ld_b_e (s : State) : Result := loadReg 4 .b (s.reg .e) s

/-- LD B,H (R200). -/
def exec_ld_b_h (s : State) : Result := loadReg 4 .b (s.reg .h) s

/-- LD B,L (R200). -/
def exec_ld_b_l (s : State) : Result := loadReg 4 .b (s.reg .l) s

/-- LD B,(HL) (R202). -/
def exec_ld_b_mhl (s : State) : Result := loadReg 8 .b (memRead s s.hl) s

/-- LD B,A (R200). -/
def exec_ld_b_a (s : State) : Result := loadReg 4 .b (s.reg .a) s

/-- LD C,B (R200). -/
def exec_ld_c_b (s : State) : Result := loadReg 4 .c (s.reg .b) s

/-- LD C,C (R200). -/
def exec_ld_c_c (s : State) : Result := loadReg 4 .c (s.reg .c) s

/-- LD C,D (R200). -/
def exec_ld_c_d (s : State) : Result := loadReg 4 .c (s.reg .d) s

/-- LD C,E (R200). -/
def exec_ld_c_e (s : State) : Result := loadReg 4 .c (s.reg .e) s

/-- LD C,H (R200). -/
def exec_ld_c_h (s : State) : Result := loadReg 4 .c (s.reg .h) s

/-- LD C,L (R200). -/
def exec_ld_c_l (s : State) : Result := loadReg 4 .c (s.reg .l) s

/-- LD C,(HL) (R202). -/
def exec_ld_c_mhl (s : State) : Result := loadReg 8 .c (memRead s s.hl) s

/-- LD C,A (R200). -/
def exec_ld_c_a (s : State) : Result := loadReg 4 .c (s.reg .a) s

/-- LD D,B (R200). -/
def exec_ld_d_b (s : State) : Result := loadReg 4 .d (s.reg .b) s

/-- LD D,C (R200). -/
def exec_ld_d_c (s : State) : Result := loadReg 4 .d (s.reg .c) s

/-- LD D,D (R200). -/
def exec_ld_d_d (s : State) : Result := loadReg 4 .d (s.reg .d) s

/-- LD D,E (R200). -/
def exec_ld_d_e (s : State) : Result := loadReg 4 .d (s.reg .e) s

/-- LD D,H (R200). -/
def exec_ld_d_h (s : State) : Result := loadReg 4 .d (s.reg .h) s

/-- LD D,L (R200). -/
def exec_ld_d_l (s : State) : Result := loadReg 4 .d (s.reg .l) s

/-- LD D,(HL) (R202). -/
def exec_ld_d_mhl (s : State) : Result := loadReg 8 .d (memRead s s.hl) s

/-- LD D,A (R200). -/
def exec_ld_d_a (s : State) : Result := loadReg 4 .d (s.reg .a) s

/-- LD E,B (R200). -/
def exec_ld_e_b (s : State) : Result := loadReg 4 .e (s.reg .b) s

/-- LD E,C (R200). -/
def exec_ld_e_c (s : State) : Result := loadReg 4 .e (s.reg .c) s

/-- LD E,D (R200). -/
def exec_ld_e_d (s : State) : Result := loadReg 4 .e (s.reg .d) s

/-- LD E,E (R200). -/
def exec_ld_e_e (s : State) : Result := loadReg 4 .e (s.reg .e) s

/-- LD E,H (R200). -/
def exec_ld_e_h (s : State) : Result := loadReg 4 .e (s.reg .h) s

/-- LD E,L (R200). -/
def exec_ld_e_l (s : State) : Result := loadReg 4 .e (s.reg .l) s

/-- LD E,(HL) (R202). -/
def exec_ld_e_mhl (s : State) : Result := loadReg 8 .e (memRead s s.hl) s

/-- LD E,A (R200). -/
def exec_ld_e_a (s : State) : Result := loadReg 4 .e (s.reg .a) s

/-- LD H,B (R200). -/
def exec_ld_h_b (s : State) : Result := loadReg 4 .h (s.reg .b) s

/-- LD H,C (R200). -/
def exec_ld_h_c (s : State) : Result := loadReg 4 .h (s.reg .c) s

/-- LD H,D (R200). -/
def exec_ld_h_d (s : State) : Result := loadReg 4 .h (s.reg .d) s

/-- LD H,E (R200). -/
def exec_ld_h_e (s : State) : Result := loadReg 4 .h (s.reg .e) s

/-- LD H,H (R200). -/
def exec_ld_h_h (s : State) : Result := loadReg 4 .h (s.reg .h) s

/-- LD H,L (R200). -/
def exec_ld_h_l (s : State) : Result := loadReg 4 .h (s.reg .l) s

/-- LD H,(HL) (R202). -/
def exec_ld_h_mhl (s : State) : Result := loadReg 8 .h (memRead s s.hl) s

/-- LD H,A (R200). -/
def exec_ld_h_a (s : State) : Result := loadReg 4 .h (s.reg .a) s

/-- LD L,B (R200). -/
def exec_ld_l_b (s : State) : Result := loadReg 4 .l (s.reg .b) s

/-- LD L,C (R200). -/
def exec_ld_l_c (s : State) : Result := loadReg 4 .l (s.reg .c) s

/-- LD L,D (R200). -/
def exec_ld_l_d (s : State) : Result := loadReg 4 .l (s.reg .d) s

/-- LD L,E (R200). -/
def exec_ld_l_e (s : State) : Result := loadReg 4 .l (s.reg .e) s

/-- LD L,H (R200). -/
def exec_ld_l_h (s : State) : Result := loadReg 4 .l (s.reg .h) s

/-- LD L,L (R200). -/
def exec_ld_l_l (s : State) : Result := loadReg 4 .l (s.reg .l) s

/-- LD L,(HL) (R202). -/
def exec_ld_l_mhl (s : State) : Result := loadReg 8 .l (memRead s s.hl) s

/-- LD L,A (R200). -/
def exec_ld_l_a (s : State) : Result := loadReg 4 .l (s.reg .a) s

/-- LD (HL),B (R203). -/
def exec_ld_mhl_b (s : State) : Result := storeAt 8 s.hl (s.reg .b) s

/-- LD (HL),C (R203). -/
def exec_ld_mhl_c (s : State) : Result := storeAt 8 s.hl (s.reg .c) s

/-- LD (HL),D (R203). -/
def exec_ld_mhl_d (s : State) : Result := storeAt 8 s.hl (s.reg .d) s

/-- LD (HL),E (R203). -/
def exec_ld_mhl_e (s : State) : Result := storeAt 8 s.hl (s.reg .e) s

/-- LD (HL),H (R203). -/
def exec_ld_mhl_h (s : State) : Result := storeAt 8 s.hl (s.reg .h) s

/-- LD (HL),L (R203). -/
def exec_ld_mhl_l (s : State) : Result := storeAt 8 s.hl (s.reg .l) s

/-- LD (HL),A (R203). -/
def exec_ld_mhl_a (s : State) : Result := storeAt 8 s.hl (s.reg .a) s

/-- LD A,B (R200). -/
def exec_ld_a_b (s : State) : Result := loadReg 4 .a (s.reg .b) s

/-- LD A,C (R200). -/
def exec_ld_a_c (s : State) : Result := loadReg 4 .a (s.reg .c) s

/-- LD A,D (R200). -/
def exec_ld_a_d (s : State) : Result := loadReg 4 .a (s.reg .d) s

/-- LD A,E (R200). -/
def exec_ld_a_e (s : State) : Result := loadReg 4 .a (s.reg .e) s

/-- LD A,H (R200). -/
def exec_ld_a_h (s : State) : Result := loadReg 4 .a (s.reg .h) s

/-- LD A,L (R200). -/
def exec_ld_a_l (s : State) : Result := loadReg 4 .a (s.reg .l) s

/-- LD A,(HL) (R202). -/
def exec_ld_a_mhl (s : State) : Result := loadReg 8 .a (memRead s s.hl) s

/-- LD A,A (R200). -/
def exec_ld_a_a (s : State) : Result := loadReg 4 .a (s.reg .a) s

/-- LDH (a8),A (R213). -/
def exec_ldh_ma8_a (a8 : Byte) (s : State) : Result := storeAt 12 (highPage a8) s.cpu.a s

/-- LD (C),A (R215). -/
def exec_ld_mc_a (s : State) : Result := storeAt 8 (highPage s.cpu.c) s.cpu.a s

/-- LD (a16),A (R217). -/
def exec_ld_ma16_a (a16 : Word) (s : State) : Result := storeAt 16 a16 s.cpu.a s

/-- LDH A,(a8) (R214). -/
def exec_ldh_a_ma8 (a8 : Byte) (s : State) : Result := loadAFrom 12 (highPage a8) s

/-- LD A,(C) (R216). -/
def exec_ld_a_mc (s : State) : Result := loadAFrom 8 (highPage s.cpu.c) s

/-- LD SP,HL (R221). -/
def exec_ld_sp_hl (s : State) : Result := complete 8 (s.setSp s.hl)

/-- LD A,(a16) (R218). -/
def exec_ld_a_ma16 (a16 : Word) (s : State) : Result := loadAFrom 16 a16 s

end Sys2Proof.Machine
end

