-- ==== Sys2Proof/Machine/Rotate.lean ====
section
/-! DEFINITION. The meanings of the rotates, shifts and SWAP (spec 42_rotate_shift_bit.md R180 to R192). -/

namespace Sys2Proof.Machine

/-- RLCA, RRCA, RLA, RRA (R180 to R183). -/
def rotateA (op : RotOp) (s : State) : Result :=
  let r := rotA8 op s.cpu.a s.cpu.f
  complete 4 ((s.setReg .a r.res).setF r.flags)

/-- A CB rotate or shift of an 8-bit location (R184 to R192): one read, one write. -/
def rotAt (op : RotOp) (x : Loc8) (s : State) : Result :=
  let r := rot8 op (get8 x s) s.cpu.f
  complete (locCycles x 8 16) ((set8 x r.res s).setF r.flags)

/-- RLCA (R180). -/
def exec_rlca (s : State) : Result := rotateA .rlc s

/-- RRCA (R181). -/
def exec_rrca (s : State) : Result := rotateA .rrc s

/-- RLA (R182). -/
def exec_rla (s : State) : Result := rotateA .rl s

/-- RRA (R183). -/
def exec_rra (s : State) : Result := rotateA .rr s

/-- RLC B (R185). -/
def exec_rlc_b (s : State) : Result := rotAt .rlc (.reg .b) s

/-- RLC C (R185). -/
def exec_rlc_c (s : State) : Result := rotAt .rlc (.reg .c) s

/-- RLC D (R185). -/
def exec_rlc_d (s : State) : Result := rotAt .rlc (.reg .d) s

/-- RLC E (R185). -/
def exec_rlc_e (s : State) : Result := rotAt .rlc (.reg .e) s

/-- RLC H (R185). -/
def exec_rlc_h (s : State) : Result := rotAt .rlc (.reg .h) s

/-- RLC L (R185). -/
def exec_rlc_l (s : State) : Result := rotAt .rlc (.reg .l) s

/-- RLC (HL) (R185). -/
def exec_rlc_mhl (s : State) : Result := rotAt .rlc .mhl s

/-- RLC A (R185). -/
def exec_rlc_a (s : State) : Result := rotAt .rlc (.reg .a) s

/-- RRC B (R186). -/
def exec_rrc_b (s : State) : Result := rotAt .rrc (.reg .b) s

/-- RRC C (R186). -/
def exec_rrc_c (s : State) : Result := rotAt .rrc (.reg .c) s

/-- RRC D (R186). -/
def exec_rrc_d (s : State) : Result := rotAt .rrc (.reg .d) s

/-- RRC E (R186). -/
def exec_rrc_e (s : State) : Result := rotAt .rrc (.reg .e) s

/-- RRC H (R186). -/
def exec_rrc_h (s : State) : Result := rotAt .rrc (.reg .h) s

/-- RRC L (R186). -/
def exec_rrc_l (s : State) : Result := rotAt .rrc (.reg .l) s

/-- RRC (HL) (R186). -/
def exec_rrc_mhl (s : State) : Result := rotAt .rrc .mhl s

/-- RRC A (R186). -/
def exec_rrc_a (s : State) : Result := rotAt .rrc (.reg .a) s

/-- RL B (R187). -/
def exec_rl_b (s : State) : Result := rotAt .rl (.reg .b) s

/-- RL C (R187). -/
def exec_rl_c (s : State) : Result := rotAt .rl (.reg .c) s

/-- RL D (R187). -/
def exec_rl_d (s : State) : Result := rotAt .rl (.reg .d) s

/-- RL E (R187). -/
def exec_rl_e (s : State) : Result := rotAt .rl (.reg .e) s

/-- RL H (R187). -/
def exec_rl_h (s : State) : Result := rotAt .rl (.reg .h) s

/-- RL L (R187). -/
def exec_rl_l (s : State) : Result := rotAt .rl (.reg .l) s

/-- RL (HL) (R187). -/
def exec_rl_mhl (s : State) : Result := rotAt .rl .mhl s

/-- RL A (R187). -/
def exec_rl_a (s : State) : Result := rotAt .rl (.reg .a) s

/-- RR B (R188). -/
def exec_rr_b (s : State) : Result := rotAt .rr (.reg .b) s

/-- RR C (R188). -/
def exec_rr_c (s : State) : Result := rotAt .rr (.reg .c) s

/-- RR D (R188). -/
def exec_rr_d (s : State) : Result := rotAt .rr (.reg .d) s

/-- RR E (R188). -/
def exec_rr_e (s : State) : Result := rotAt .rr (.reg .e) s

/-- RR H (R188). -/
def exec_rr_h (s : State) : Result := rotAt .rr (.reg .h) s

/-- RR L (R188). -/
def exec_rr_l (s : State) : Result := rotAt .rr (.reg .l) s

/-- RR (HL) (R188). -/
def exec_rr_mhl (s : State) : Result := rotAt .rr .mhl s

/-- RR A (R188). -/
def exec_rr_a (s : State) : Result := rotAt .rr (.reg .a) s

/-- SLA B (R189). -/
def exec_sla_b (s : State) : Result := rotAt .sla (.reg .b) s

/-- SLA C (R189). -/
def exec_sla_c (s : State) : Result := rotAt .sla (.reg .c) s

/-- SLA D (R189). -/
def exec_sla_d (s : State) : Result := rotAt .sla (.reg .d) s

/-- SLA E (R189). -/
def exec_sla_e (s : State) : Result := rotAt .sla (.reg .e) s

/-- SLA H (R189). -/
def exec_sla_h (s : State) : Result := rotAt .sla (.reg .h) s

/-- SLA L (R189). -/
def exec_sla_l (s : State) : Result := rotAt .sla (.reg .l) s

/-- SLA (HL) (R189). -/
def exec_sla_mhl (s : State) : Result := rotAt .sla .mhl s

/-- SLA A (R189). -/
def exec_sla_a (s : State) : Result := rotAt .sla (.reg .a) s

/-- SRA B (R190). -/
def exec_sra_b (s : State) : Result := rotAt .sra (.reg .b) s

/-- SRA C (R190). -/
def exec_sra_c (s : State) : Result := rotAt .sra (.reg .c) s

/-- SRA D (R190). -/
def exec_sra_d (s : State) : Result := rotAt .sra (.reg .d) s

/-- SRA E (R190). -/
def exec_sra_e (s : State) : Result := rotAt .sra (.reg .e) s

/-- SRA H (R190). -/
def exec_sra_h (s : State) : Result := rotAt .sra (.reg .h) s

/-- SRA L (R190). -/
def exec_sra_l (s : State) : Result := rotAt .sra (.reg .l) s

/-- SRA (HL) (R190). -/
def exec_sra_mhl (s : State) : Result := rotAt .sra .mhl s

/-- SRA A (R190). -/
def exec_sra_a (s : State) : Result := rotAt .sra (.reg .a) s

/-- SWAP B (R191). -/
def exec_swap_b (s : State) : Result := rotAt .swap (.reg .b) s

/-- SWAP C (R191). -/
def exec_swap_c (s : State) : Result := rotAt .swap (.reg .c) s

/-- SWAP D (R191). -/
def exec_swap_d (s : State) : Result := rotAt .swap (.reg .d) s

/-- SWAP E (R191). -/
def exec_swap_e (s : State) : Result := rotAt .swap (.reg .e) s

/-- SWAP H (R191). -/
def exec_swap_h (s : State) : Result := rotAt .swap (.reg .h) s

/-- SWAP L (R191). -/
def exec_swap_l (s : State) : Result := rotAt .swap (.reg .l) s

/-- SWAP (HL) (R191). -/
def exec_swap_mhl (s : State) : Result := rotAt .swap .mhl s

/-- SWAP A (R191). -/
def exec_swap_a (s : State) : Result := rotAt .swap (.reg .a) s

/-- SRL B (R192). -/
def exec_srl_b (s : State) : Result := rotAt .srl (.reg .b) s

/-- SRL C (R192). -/
def exec_srl_c (s : State) : Result := rotAt .srl (.reg .c) s

/-- SRL D (R192). -/
def exec_srl_d (s : State) : Result := rotAt .srl (.reg .d) s

/-- SRL E (R192). -/
def exec_srl_e (s : State) : Result := rotAt .srl (.reg .e) s

/-- SRL H (R192). -/
def exec_srl_h (s : State) : Result := rotAt .srl (.reg .h) s

/-- SRL L (R192). -/
def exec_srl_l (s : State) : Result := rotAt .srl (.reg .l) s

/-- SRL (HL) (R192). -/
def exec_srl_mhl (s : State) : Result := rotAt .srl .mhl s

/-- SRL A (R192). -/
def exec_srl_a (s : State) : Result := rotAt .srl (.reg .a) s

end Sys2Proof.Machine
end

