-- ==== Sys2Proof/Decode.lean ====
section
/-! DEFINITION. The decoder and the encoder (spec 30_encoding.md). The decoder reads an instruction by the fields x, y,
z, p, q of its opcode (R111) through the operand tables R113 to R116 and the maps R119 to R123; the encoder writes each
row's bytes as the grid R124 and opcode_table.json give them. The two are written from different tables. -/

namespace Sys2Proof

/-! Fields of an opcode (R111). -/

/-- `x = op[7:6]`. -/
def fieldX (op : Byte) : Nat := op.toNat / 64

/-- `y = op[5:3]`. -/
def fieldY (op : Byte) : Nat := op.toNat / 8 % 8

/-- `z = op[2:0]`. -/
def fieldZ (op : Byte) : Nat := op.toNat % 8

/-- `p = y[2:1]`. -/
def fieldP (op : Byte) : Nat := fieldY op / 2

/-- `q = y[0]`. -/
def fieldQ (op : Byte) : Nat := fieldY op % 2

/-! Operand tables (R113 to R117). -/

/-- The location of an operand code (R113). -/
def Loc8.ofCode : Nat → Loc8
  | 0 => .reg .b
  | 1 => .reg .c
  | 2 => .reg .d
  | 3 => .reg .e
  | 4 => .reg .h
  | 5 => .reg .l
  | 6 => .mhl
  | _ => .reg .a

/-- `rp[p]` (R114). -/
def Rp.ofCode : Nat → Rp
  | 0 => .bc
  | 1 => .de
  | 2 => .hl
  | _ => .sp

/-- `rp2[p]` (R114). -/
def Rp2.ofCode : Nat → Rp2
  | 0 => .bc
  | 1 => .de
  | 2 => .hl
  | _ => .af

/-- `cc` (R115). -/
def Cond.ofCode : Nat → Cond
  | 0 => .nz
  | 1 => .z
  | 2 => .nc
  | _ => .c

/-- `alu[y]` (R116). -/
def AluOp.ofCode : Nat → AluOp
  | 0 => .add
  | 1 => .adc
  | 2 => .sub
  | 3 => .sbc
  | 4 => .and
  | 5 => .xor
  | 6 => .or
  | _ => .cp

/-- `rot[y]` (R116). -/
def RotOp.ofCode : Nat → RotOp
  | 0 => .rlc
  | 1 => .rrc
  | 2 => .rl
  | 3 => .rr
  | 4 => .sla
  | 5 => .sra
  | 6 => .swap
  | _ => .srl

/-- A bit number or RST index, the field y itself (R117). -/
def Index8.ofCode : Nat → Index8
  | 0 => .i0
  | 1 => .i1
  | 2 => .i2
  | 3 => .i3
  | 4 => .i4
  | 5 => .i5
  | 6 => .i6
  | _ => .i7

/-! The instruction of an operation and its operands: one function per group of the maps R119 to R123. -/

/-- `LD r,r'` (R120; 43_load.md R200). -/
def Instr.ldRegReg : Reg8 → Reg8 → Instr
  | .b, .b => .ld_b_b
  | .b, .c => .ld_b_c
  | .b, .d => .ld_b_d
  | .b, .e => .ld_b_e
  | .b, .h => .ld_b_h
  | .b, .l => .ld_b_l
  | .b, .a => .ld_b_a
  | .c, .b => .ld_c_b
  | .c, .c => .ld_c_c
  | .c, .d => .ld_c_d
  | .c, .e => .ld_c_e
  | .c, .h => .ld_c_h
  | .c, .l => .ld_c_l
  | .c, .a => .ld_c_a
  | .d, .b => .ld_d_b
  | .d, .c => .ld_d_c
  | .d, .d => .ld_d_d
  | .d, .e => .ld_d_e
  | .d, .h => .ld_d_h
  | .d, .l => .ld_d_l
  | .d, .a => .ld_d_a
  | .e, .b => .ld_e_b
  | .e, .c => .ld_e_c
  | .e, .d => .ld_e_d
  | .e, .e => .ld_e_e
  | .e, .h => .ld_e_h
  | .e, .l => .ld_e_l
  | .e, .a => .ld_e_a
  | .h, .b => .ld_h_b
  | .h, .c => .ld_h_c
  | .h, .d => .ld_h_d
  | .h, .e => .ld_h_e
  | .h, .h => .ld_h_h
  | .h, .l => .ld_h_l
  | .h, .a => .ld_h_a
  | .l, .b => .ld_l_b
  | .l, .c => .ld_l_c
  | .l, .d => .ld_l_d
  | .l, .e => .ld_l_e
  | .l, .h => .ld_l_h
  | .l, .l => .ld_l_l
  | .l, .a => .ld_l_a
  | .a, .b => .ld_a_b
  | .a, .c => .ld_a_c
  | .a, .d => .ld_a_d
  | .a, .e => .ld_a_e
  | .a, .h => .ld_a_h
  | .a, .l => .ld_a_l
  | .a, .a => .ld_a_a

/-- `LD r,d8` (R119; 43_load.md R201). -/
def Instr.ldRegD8 : Reg8 → Byte → Instr
  | .b, v => .ld_b_d8 v
  | .c, v => .ld_c_d8 v
  | .d, v => .ld_d_d8 v
  | .e, v => .ld_e_d8 v
  | .h, v => .ld_h_d8 v
  | .l, v => .ld_l_d8 v
  | .a, v => .ld_a_d8 v

/-- `LD r,(HL)` (R120; 43_load.md R202). -/
def Instr.ldRegMhl : Reg8 → Instr
  | .b => .ld_b_mhl
  | .c => .ld_c_mhl
  | .d => .ld_d_mhl
  | .e => .ld_e_mhl
  | .h => .ld_h_mhl
  | .l => .ld_l_mhl
  | .a => .ld_a_mhl

/-- `LD (HL),r` (R120; 43_load.md R203). -/
def Instr.ldMhlReg : Reg8 → Instr
  | .b => .ld_mhl_b
  | .c => .ld_mhl_c
  | .d => .ld_mhl_d
  | .e => .ld_mhl_e
  | .h => .ld_mhl_h
  | .l => .ld_mhl_l
  | .a => .ld_mhl_a

/-- The two-operand ALU instructions `alu[y] A,x` (R121, R122; 40_alu8.md R142). -/
def Instr.alu : AluOp → Operand8 → Instr
  | .add, .loc (.reg .b) => .add_a_b
  | .add, .loc (.reg .c) => .add_a_c
  | .add, .loc (.reg .d) => .add_a_d
  | .add, .loc (.reg .e) => .add_a_e
  | .add, .loc (.reg .h) => .add_a_h
  | .add, .loc (.reg .l) => .add_a_l
  | .add, .loc .mhl => .add_a_mhl
  | .add, .loc (.reg .a) => .add_a_a
  | .add, .imm v => .add_a_d8 v
  | .adc, .loc (.reg .b) => .adc_a_b
  | .adc, .loc (.reg .c) => .adc_a_c
  | .adc, .loc (.reg .d) => .adc_a_d
  | .adc, .loc (.reg .e) => .adc_a_e
  | .adc, .loc (.reg .h) => .adc_a_h
  | .adc, .loc (.reg .l) => .adc_a_l
  | .adc, .loc .mhl => .adc_a_mhl
  | .adc, .loc (.reg .a) => .adc_a_a
  | .adc, .imm v => .adc_a_d8 v
  | .sub, .loc (.reg .b) => .sub_b
  | .sub, .loc (.reg .c) => .sub_c
  | .sub, .loc (.reg .d) => .sub_d
  | .sub, .loc (.reg .e) => .sub_e
  | .sub, .loc (.reg .h) => .sub_h
  | .sub, .loc (.reg .l) => .sub_l
  | .sub, .loc .mhl => .sub_mhl
  | .sub, .loc (.reg .a) => .sub_a
  | .sub, .imm v => .sub_d8 v
  | .sbc, .loc (.reg .b) => .sbc_a_b
  | .sbc, .loc (.reg .c) => .sbc_a_c
  | .sbc, .loc (.reg .d) => .sbc_a_d
  | .sbc, .loc (.reg .e) => .sbc_a_e
  | .sbc, .loc (.reg .h) => .sbc_a_h
  | .sbc, .loc (.reg .l) => .sbc_a_l
  | .sbc, .loc .mhl => .sbc_a_mhl
  | .sbc, .loc (.reg .a) => .sbc_a_a
  | .sbc, .imm v => .sbc_a_d8 v
  | .and, .loc (.reg .b) => .and_b
  | .and, .loc (.reg .c) => .and_c
  | .and, .loc (.reg .d) => .and_d
  | .and, .loc (.reg .e) => .and_e
  | .and, .loc (.reg .h) => .and_h
  | .and, .loc (.reg .l) => .and_l
  | .and, .loc .mhl => .and_mhl
  | .and, .loc (.reg .a) => .and_a
  | .and, .imm v => .and_d8 v
  | .xor, .loc (.reg .b) => .xor_b
  | .xor, .loc (.reg .c) => .xor_c
  | .xor, .loc (.reg .d) => .xor_d
  | .xor, .loc (.reg .e) => .xor_e
  | .xor, .loc (.reg .h) => .xor_h
  | .xor, .loc (.reg .l) => .xor_l
  | .xor, .loc .mhl => .xor_mhl
  | .xor, .loc (.reg .a) => .xor_a
  | .xor, .imm v => .xor_d8 v
  | .or, .loc (.reg .b) => .or_b
  | .or, .loc (.reg .c) => .or_c
  | .or, .loc (.reg .d) => .or_d
  | .or, .loc (.reg .e) => .or_e
  | .or, .loc (.reg .h) => .or_h
  | .or, .loc (.reg .l) => .or_l
  | .or, .loc .mhl => .or_mhl
  | .or, .loc (.reg .a) => .or_a
  | .or, .imm v => .or_d8 v
  | .cp, .loc (.reg .b) => .cp_b
  | .cp, .loc (.reg .c) => .cp_c
  | .cp, .loc (.reg .d) => .cp_d
  | .cp, .loc (.reg .e) => .cp_e
  | .cp, .loc (.reg .h) => .cp_h
  | .cp, .loc (.reg .l) => .cp_l
  | .cp, .loc .mhl => .cp_mhl
  | .cp, .loc (.reg .a) => .cp_a
  | .cp, .imm v => .cp_d8 v

/-- `INC r`, `INC (HL)` (R119; 40_alu8.md R143). -/
def Instr.incLoc : Loc8 → Instr
  | .reg .b => .inc_b
  | .reg .c => .inc_c
  | .reg .d => .inc_d
  | .reg .e => .inc_e
  | .reg .h => .inc_h
  | .reg .l => .inc_l
  | .mhl => .inc_mhl
  | .reg .a => .inc_a

/-- `DEC r`, `DEC (HL)` (R119; 40_alu8.md R144). -/
def Instr.decLoc : Loc8 → Instr
  | .reg .b => .dec_b
  | .reg .c => .dec_c
  | .reg .d => .dec_d
  | .reg .e => .dec_e
  | .reg .h => .dec_h
  | .reg .l => .dec_l
  | .mhl => .dec_mhl
  | .reg .a => .dec_a

/-- The CB rotates and shifts `rot[y] r[z]` (R123; 42_rotate_shift_bit.md R185 to R192). -/
def Instr.rot : RotOp → Loc8 → Instr
  | .rlc, .reg .b => .rlc_b
  | .rlc, .reg .c => .rlc_c
  | .rlc, .reg .d => .rlc_d
  | .rlc, .reg .e => .rlc_e
  | .rlc, .reg .h => .rlc_h
  | .rlc, .reg .l => .rlc_l
  | .rlc, .mhl => .rlc_mhl
  | .rlc, .reg .a => .rlc_a
  | .rrc, .reg .b => .rrc_b
  | .rrc, .reg .c => .rrc_c
  | .rrc, .reg .d => .rrc_d
  | .rrc, .reg .e => .rrc_e
  | .rrc, .reg .h => .rrc_h
  | .rrc, .reg .l => .rrc_l
  | .rrc, .mhl => .rrc_mhl
  | .rrc, .reg .a => .rrc_a
  | .rl, .reg .b => .rl_b
  | .rl, .reg .c => .rl_c
  | .rl, .reg .d => .rl_d
  | .rl, .reg .e => .rl_e
  | .rl, .reg .h => .rl_h
  | .rl, .reg .l => .rl_l
  | .rl, .mhl => .rl_mhl
  | .rl, .reg .a => .rl_a
  | .rr, .reg .b => .rr_b
  | .rr, .reg .c => .rr_c
  | .rr, .reg .d => .rr_d
  | .rr, .reg .e => .rr_e
  | .rr, .reg .h => .rr_h
  | .rr, .reg .l => .rr_l
  | .rr, .mhl => .rr_mhl
  | .rr, .reg .a => .rr_a
  | .sla, .reg .b => .sla_b
  | .sla, .reg .c => .sla_c
  | .sla, .reg .d => .sla_d
  | .sla, .reg .e => .sla_e
  | .sla, .reg .h => .sla_h
  | .sla, .reg .l => .sla_l
  | .sla, .mhl => .sla_mhl
  | .sla, .reg .a => .sla_a
  | .sra, .reg .b => .sra_b
  | .sra, .reg .c => .sra_c
  | .sra, .reg .d => .sra_d
  | .sra, .reg .e => .sra_e
  | .sra, .reg .h => .sra_h
  | .sra, .reg .l => .sra_l
  | .sra, .mhl => .sra_mhl
  | .sra, .reg .a => .sra_a
  | .swap, .reg .b => .swap_b
  | .swap, .reg .c => .swap_c
  | .swap, .reg .d => .swap_d
  | .swap, .reg .e => .swap_e
  | .swap, .reg .h => .swap_h
  | .swap, .reg .l => .swap_l
  | .swap, .mhl => .swap_mhl
  | .swap, .reg .a => .swap_a
  | .srl, .reg .b => .srl_b
  | .srl, .reg .c => .srl_c
  | .srl, .reg .d => .srl_d
  | .srl, .reg .e => .srl_e
  | .srl, .reg .h => .srl_h
  | .srl, .reg .l => .srl_l
  | .srl, .mhl => .srl_mhl
  | .srl, .reg .a => .srl_a

/-- `BIT n,r` (R123; 42_rotate_shift_bit.md R193). -/
def Instr.bit : Index8 → Loc8 → Instr
  | .i0, .reg .b => .bit_0_b
  | .i0, .reg .c => .bit_0_c
  | .i0, .reg .d => .bit_0_d
  | .i0, .reg .e => .bit_0_e
  | .i0, .reg .h => .bit_0_h
  | .i0, .reg .l => .bit_0_l
  | .i0, .mhl => .bit_0_mhl
  | .i0, .reg .a => .bit_0_a
  | .i1, .reg .b => .bit_1_b
  | .i1, .reg .c => .bit_1_c
  | .i1, .reg .d => .bit_1_d
  | .i1, .reg .e => .bit_1_e
  | .i1, .reg .h => .bit_1_h
  | .i1, .reg .l => .bit_1_l
  | .i1, .mhl => .bit_1_mhl
  | .i1, .reg .a => .bit_1_a
  | .i2, .reg .b => .bit_2_b
  | .i2, .reg .c => .bit_2_c
  | .i2, .reg .d => .bit_2_d
  | .i2, .reg .e => .bit_2_e
  | .i2, .reg .h => .bit_2_h
  | .i2, .reg .l => .bit_2_l
  | .i2, .mhl => .bit_2_mhl
  | .i2, .reg .a => .bit_2_a
  | .i3, .reg .b => .bit_3_b
  | .i3, .reg .c => .bit_3_c
  | .i3, .reg .d => .bit_3_d
  | .i3, .reg .e => .bit_3_e
  | .i3, .reg .h => .bit_3_h
  | .i3, .reg .l => .bit_3_l
  | .i3, .mhl => .bit_3_mhl
  | .i3, .reg .a => .bit_3_a
  | .i4, .reg .b => .bit_4_b
  | .i4, .reg .c => .bit_4_c
  | .i4, .reg .d => .bit_4_d
  | .i4, .reg .e => .bit_4_e
  | .i4, .reg .h => .bit_4_h
  | .i4, .reg .l => .bit_4_l
  | .i4, .mhl => .bit_4_mhl
  | .i4, .reg .a => .bit_4_a
  | .i5, .reg .b => .bit_5_b
  | .i5, .reg .c => .bit_5_c
  | .i5, .reg .d => .bit_5_d
  | .i5, .reg .e => .bit_5_e
  | .i5, .reg .h => .bit_5_h
  | .i5, .reg .l => .bit_5_l
  | .i5, .mhl => .bit_5_mhl
  | .i5, .reg .a => .bit_5_a
  | .i6, .reg .b => .bit_6_b
  | .i6, .reg .c => .bit_6_c
  | .i6, .reg .d => .bit_6_d
  | .i6, .reg .e => .bit_6_e
  | .i6, .reg .h => .bit_6_h
  | .i6, .reg .l => .bit_6_l
  | .i6, .mhl => .bit_6_mhl
  | .i6, .reg .a => .bit_6_a
  | .i7, .reg .b => .bit_7_b
  | .i7, .reg .c => .bit_7_c
  | .i7, .reg .d => .bit_7_d
  | .i7, .reg .e => .bit_7_e
  | .i7, .reg .h => .bit_7_h
  | .i7, .reg .l => .bit_7_l
  | .i7, .mhl => .bit_7_mhl
  | .i7, .reg .a => .bit_7_a

/-- `RES n,r` (R123; 42_rotate_shift_bit.md R194). -/
def Instr.res : Index8 → Loc8 → Instr
  | .i0, .reg .b => .res_0_b
  | .i0, .reg .c => .res_0_c
  | .i0, .reg .d => .res_0_d
  | .i0, .reg .e => .res_0_e
  | .i0, .reg .h => .res_0_h
  | .i0, .reg .l => .res_0_l
  | .i0, .mhl => .res_0_mhl
  | .i0, .reg .a => .res_0_a
  | .i1, .reg .b => .res_1_b
  | .i1, .reg .c => .res_1_c
  | .i1, .reg .d => .res_1_d
  | .i1, .reg .e => .res_1_e
  | .i1, .reg .h => .res_1_h
  | .i1, .reg .l => .res_1_l
  | .i1, .mhl => .res_1_mhl
  | .i1, .reg .a => .res_1_a
  | .i2, .reg .b => .res_2_b
  | .i2, .reg .c => .res_2_c
  | .i2, .reg .d => .res_2_d
  | .i2, .reg .e => .res_2_e
  | .i2, .reg .h => .res_2_h
  | .i2, .reg .l => .res_2_l
  | .i2, .mhl => .res_2_mhl
  | .i2, .reg .a => .res_2_a
  | .i3, .reg .b => .res_3_b
  | .i3, .reg .c => .res_3_c
  | .i3, .reg .d => .res_3_d
  | .i3, .reg .e => .res_3_e
  | .i3, .reg .h => .res_3_h
  | .i3, .reg .l => .res_3_l
  | .i3, .mhl => .res_3_mhl
  | .i3, .reg .a => .res_3_a
  | .i4, .reg .b => .res_4_b
  | .i4, .reg .c => .res_4_c
  | .i4, .reg .d => .res_4_d
  | .i4, .reg .e => .res_4_e
  | .i4, .reg .h => .res_4_h
  | .i4, .reg .l => .res_4_l
  | .i4, .mhl => .res_4_mhl
  | .i4, .reg .a => .res_4_a
  | .i5, .reg .b => .res_5_b
  | .i5, .reg .c => .res_5_c
  | .i5, .reg .d => .res_5_d
  | .i5, .reg .e => .res_5_e
  | .i5, .reg .h => .res_5_h
  | .i5, .reg .l => .res_5_l
  | .i5, .mhl => .res_5_mhl
  | .i5, .reg .a => .res_5_a
  | .i6, .reg .b => .res_6_b
  | .i6, .reg .c => .res_6_c
  | .i6, .reg .d => .res_6_d
  | .i6, .reg .e => .res_6_e
  | .i6, .reg .h => .res_6_h
  | .i6, .reg .l => .res_6_l
  | .i6, .mhl => .res_6_mhl
  | .i6, .reg .a => .res_6_a
  | .i7, .reg .b => .res_7_b
  | .i7, .reg .c => .res_7_c
  | .i7, .reg .d => .res_7_d
  | .i7, .reg .e => .res_7_e
  | .i7, .reg .h => .res_7_h
  | .i7, .reg .l => .res_7_l
  | .i7, .mhl => .res_7_mhl
  | .i7, .reg .a => .res_7_a

/-- `SET n,r` (R123; 42_rotate_shift_bit.md R195). -/
def Instr.set : Index8 → Loc8 → Instr
  | .i0, .reg .b => .set_0_b
  | .i0, .reg .c => .set_0_c
  | .i0, .reg .d => .set_0_d
  | .i0, .reg .e => .set_0_e
  | .i0, .reg .h => .set_0_h
  | .i0, .reg .l => .set_0_l
  | .i0, .mhl => .set_0_mhl
  | .i0, .reg .a => .set_0_a
  | .i1, .reg .b => .set_1_b
  | .i1, .reg .c => .set_1_c
  | .i1, .reg .d => .set_1_d
  | .i1, .reg .e => .set_1_e
  | .i1, .reg .h => .set_1_h
  | .i1, .reg .l => .set_1_l
  | .i1, .mhl => .set_1_mhl
  | .i1, .reg .a => .set_1_a
  | .i2, .reg .b => .set_2_b
  | .i2, .reg .c => .set_2_c
  | .i2, .reg .d => .set_2_d
  | .i2, .reg .e => .set_2_e
  | .i2, .reg .h => .set_2_h
  | .i2, .reg .l => .set_2_l
  | .i2, .mhl => .set_2_mhl
  | .i2, .reg .a => .set_2_a
  | .i3, .reg .b => .set_3_b
  | .i3, .reg .c => .set_3_c
  | .i3, .reg .d => .set_3_d
  | .i3, .reg .e => .set_3_e
  | .i3, .reg .h => .set_3_h
  | .i3, .reg .l => .set_3_l
  | .i3, .mhl => .set_3_mhl
  | .i3, .reg .a => .set_3_a
  | .i4, .reg .b => .set_4_b
  | .i4, .reg .c => .set_4_c
  | .i4, .reg .d => .set_4_d
  | .i4, .reg .e => .set_4_e
  | .i4, .reg .h => .set_4_h
  | .i4, .reg .l => .set_4_l
  | .i4, .mhl => .set_4_mhl
  | .i4, .reg .a => .set_4_a
  | .i5, .reg .b => .set_5_b
  | .i5, .reg .c => .set_5_c
  | .i5, .reg .d => .set_5_d
  | .i5, .reg .e => .set_5_e
  | .i5, .reg .h => .set_5_h
  | .i5, .reg .l => .set_5_l
  | .i5, .mhl => .set_5_mhl
  | .i5, .reg .a => .set_5_a
  | .i6, .reg .b => .set_6_b
  | .i6, .reg .c => .set_6_c
  | .i6, .reg .d => .set_6_d
  | .i6, .reg .e => .set_6_e
  | .i6, .reg .h => .set_6_h
  | .i6, .reg .l => .set_6_l
  | .i6, .mhl => .set_6_mhl
  | .i6, .reg .a => .set_6_a
  | .i7, .reg .b => .set_7_b
  | .i7, .reg .c => .set_7_c
  | .i7, .reg .d => .set_7_d
  | .i7, .reg .e => .set_7_e
  | .i7, .reg .h => .set_7_h
  | .i7, .reg .l => .set_7_l
  | .i7, .mhl => .set_7_mhl
  | .i7, .reg .a => .set_7_a

/-- `LD rr,d16` (R119; 43_load.md R219). -/
def Instr.ldPairD16 : Rp → Word → Instr
  | .bc, v => .ld_bc_d16 v
  | .de, v => .ld_de_d16 v
  | .hl, v => .ld_hl_d16 v
  | .sp, v => .ld_sp_d16 v

/-- `ADD HL,rr` (R119; 41_alu16.md R170). -/
def Instr.addHl : Rp → Instr
  | .bc => .add_hl_bc
  | .de => .add_hl_de
  | .hl => .add_hl_hl
  | .sp => .add_hl_sp

/-- `INC rr` (R119; 41_alu16.md R171). -/
def Instr.incPair : Rp → Instr
  | .bc => .inc_bc
  | .de => .inc_de
  | .hl => .inc_hl
  | .sp => .inc_sp

/-- `DEC rr` (R119; 41_alu16.md R172). -/
def Instr.decPair : Rp → Instr
  | .bc => .dec_bc
  | .de => .dec_de
  | .hl => .dec_hl
  | .sp => .dec_sp

/-- `PUSH rr` (R122; 44_control_stack.md R254). -/
def Instr.push : Rp2 → Instr
  | .bc => .push_bc
  | .de => .push_de
  | .hl => .push_hl
  | .af => .push_af

/-- `POP rr` (R122; 44_control_stack.md R255). -/
def Instr.pop : Rp2 → Instr
  | .bc => .pop_bc
  | .de => .pop_de
  | .hl => .pop_hl
  | .af => .pop_af

/-- `JR cc,s8` (R119; 44_control_stack.md R247). -/
def Instr.jrCond : Cond → Byte → Instr
  | .nz, e => .jr_nz_s8 e
  | .z, e => .jr_z_s8 e
  | .nc, e => .jr_nc_s8 e
  | .c, e => .jr_c_s8 e

/-- `JP cc,a16` (R122; 44_control_stack.md R244). -/
def Instr.jpCond : Cond → Word → Instr
  | .nz, a => .jp_nz_a16 a
  | .z, a => .jp_z_a16 a
  | .nc, a => .jp_nc_a16 a
  | .c, a => .jp_c_a16 a

/-- `CALL cc,a16` (R122; 44_control_stack.md R249). -/
def Instr.callCond : Cond → Word → Instr
  | .nz, a => .call_nz_a16 a
  | .z, a => .call_z_a16 a
  | .nc, a => .call_nc_a16 a
  | .c, a => .call_c_a16 a

/-- `RET cc` (R122; 44_control_stack.md R251). -/
def Instr.retCond : Cond → Instr
  | .nz => .ret_nz
  | .z => .ret_z
  | .nc => .ret_nc
  | .c => .ret_c

/-- `RST n` (R122; 44_control_stack.md R253). -/
def Instr.rst : Index8 → Instr
  | .i0 => .rst_00
  | .i1 => .rst_08
  | .i2 => .rst_10
  | .i3 => .rst_18
  | .i4 => .rst_20
  | .i5 => .rst_28
  | .i6 => .rst_30
  | .i7 => .rst_38

/-- `LD r[y],r[z]` (R120): with y = z = 6 the slot is HALT. -/
def Instr.ldLocLoc : Loc8 → Loc8 → Instr
  | .reg r, .reg r' => .ldRegReg r r'
  | .reg r, .mhl => .ldRegMhl r
  | .mhl, .reg r => .ldMhlReg r
  | .mhl, .mhl => .halt

/-- `LD r[y],d8` (R119): with y = 6 it is `LD (HL),d8`. -/
def Instr.ldLocD8 : Loc8 → Byte → Instr
  | .reg r, v => .ldRegD8 r v
  | .mhl, v => .ld_mhl_d8 v

/-! The maps. -/

/-- The base map, x = 0 (R119): `d1` and `d2` are the bytes after the opcode. -/
def baseInstr0 (op d1 d2 : Byte) : Instr :=
  let y := fieldY op
  match fieldZ op with
  | 0 =>
    match y with
    | 0 => .nop
    | 1 => .ld_ma16_sp (Machine.joinBytes d2 d1)
    | 2 => .stop d1
    | 3 => .jr_s8 d1
    | _ => .jrCond (Cond.ofCode (y - 4)) d1
  | 1 =>
    if fieldQ op = 0 then .ldPairD16 (Rp.ofCode (fieldP op)) (Machine.joinBytes d2 d1)
    else .addHl (Rp.ofCode (fieldP op))
  | 2 =>
    match y with
    | 0 => .ld_mbc_a
    | 1 => .ld_a_mbc
    | 2 => .ld_mde_a
    | 3 => .ld_a_mde
    | 4 => .ld_mhli_a
    | 5 => .ld_a_mhli
    | 6 => .ld_mhld_a
    | _ => .ld_a_mhld
  | 3 => if fieldQ op = 0 then .incPair (Rp.ofCode (fieldP op)) else .decPair (Rp.ofCode (fieldP op))
  | 4 => .incLoc (Loc8.ofCode y)
  | 5 => .decLoc (Loc8.ofCode y)
  | 6 => .ldLocD8 (Loc8.ofCode y) d1
  | _ =>
    match y with
    | 0 => .rlca
    | 1 => .rrca
    | 2 => .rla
    | 3 => .rra
    | 4 => .daa
    | 5 => .cpl
    | 6 => .scf
    | _ => .ccf

/-- The base map, x = 3 (R122). -/
def baseInstr3 (op d1 d2 : Byte) : Instr :=
  let y := fieldY op
  let w := Machine.joinBytes d2 d1
  match fieldZ op with
  | 0 =>
    match y with
    | 4 => .ldh_ma8_a d1
    | 5 => .add_sp_s8 d1
    | 6 => .ldh_a_ma8 d1
    | 7 => .ld_hl_sp_s8 d1
    | _ => .retCond (Cond.ofCode y)
  | 1 =>
    if fieldQ op = 0 then .pop (Rp2.ofCode (fieldP op))
    else
      match fieldP op with
      | 0 => .ret
      | 1 => .reti
      | 2 => .jp_hl
      | _ => .ld_sp_hl
  | 2 =>
    match y with
    | 4 => .ld_mc_a
    | 5 => .ld_ma16_a w
    | 6 => .ld_a_mc
    | 7 => .ld_a_ma16 w
    | _ => .jpCond (Cond.ofCode y) w
  | 3 =>
    match y with
    | 0 => .jp_a16 w
    | 1 => .prefix_cb d1
    | 2 => .illegal_d3
    | 3 => .illegal_db
    | 4 => .illegal_e3
    | 5 => .illegal_eb
    | 6 => .di
    | _ => .ei
  | 4 =>
    match y with
    | 4 => .illegal_e4
    | 5 => .illegal_ec
    | 6 => .illegal_f4
    | 7 => .illegal_fc
    | _ => .callCond (Cond.ofCode y) w
  | 5 =>
    if fieldQ op = 0 then .push (Rp2.ofCode (fieldP op))
    else
      match fieldP op with
      | 0 => .call_a16 w
      | 1 => .illegal_dd
      | 2 => .illegal_ed
      | _ => .illegal_fd
  | 6 => .alu (AluOp.ofCode y) (.imm d1)
  | _ => .rst (Index8.ofCode y)

/-- The base map (R119 to R122). -/
def baseInstr (op d1 d2 : Byte) : Instr :=
  match fieldX op with
  | 0 => baseInstr0 op d1 d2
  | 1 => .ldLocLoc (Loc8.ofCode (fieldY op)) (Loc8.ofCode (fieldZ op))
  | 2 => .alu (AluOp.ofCode (fieldY op)) (.loc (Loc8.ofCode (fieldZ op)))
  | _ => baseInstr3 op d1 d2

/-- The CB map (R123). -/
def cbInstr (sub : Byte) : Instr :=
  let y := fieldY sub
  let r := Loc8.ofCode (fieldZ sub)
  match fieldX sub with
  | 0 => .rot (RotOp.ofCode y) r
  | 1 => .bit (Index8.ofCode y) r
  | 2 => .res (Index8.ofCode y) r
  | _ => .set (Index8.ofCode y) r

/-- `Decode()` (R112) on the opcode and the two bytes that follow it: total, every one of the 256 first bytes and 256 CB
sub-opcodes selects an instruction (R118). -/
def decodeAt (op d1 d2 : Byte) : Instr :=
  if op = 0xCB#8 then cbInstr d1 else baseInstr op d1 d2

/-- Why a list of bytes is no instruction. -/
inductive DecodeError where
  /-- There is no first byte. -/
  | noOpcode
  /-- The list ends before the instruction that its first byte begins (R110). -/
  | truncated
  deriving DecidableEq, Repr

/-- The decoder on any bytes: the instruction and the bytes after it, or the name of what is missing. -/
def decode : List Byte → Except DecodeError (Instr × List Byte)
  | [] => .error .noOpcode
  | op :: rest =>
    let i := decodeAt op (rest.getD 0 0x00#8) (rest.getD 1 0x00#8)
    if rest.length + 1 < i.length then .error .truncated
    else .ok (i, rest.drop (i.length - 1))

/-- The encoder: the bytes of an instruction, the first at the lowest address (R110, R124; opcode_table.json). -/
def encode : Instr → List Byte
  | .nop => [0x00#8]
  | .ld_bc_d16 v => [0x01#8, Machine.loByte v, Machine.hiByte v]
  | .ld_mbc_a => [0x02#8]
  | .inc_bc => [0x03#8]
  | .inc_b => [0x04#8]
  | .dec_b => [0x05#8]
  | .ld_b_d8 v => [0x06#8, v]
  | .rlca => [0x07#8]
  | .ld_ma16_sp v => [0x08#8, Machine.loByte v, Machine.hiByte v]
  | .add_hl_bc => [0x09#8]
  | .ld_a_mbc => [0x0A#8]
  | .dec_bc => [0x0B#8]
  | .inc_c => [0x0C#8]
  | .dec_c => [0x0D#8]
  | .ld_c_d8 v => [0x0E#8, v]
  | .rrca => [0x0F#8]
  | .stop v => [0x10#8, v]
  | .ld_de_d16 v => [0x11#8, Machine.loByte v, Machine.hiByte v]
  | .ld_mde_a => [0x12#8]
  | .inc_de => [0x13#8]
  | .inc_d => [0x14#8]
  | .dec_d => [0x15#8]
  | .ld_d_d8 v => [0x16#8, v]
  | .rla => [0x17#8]
  | .jr_s8 v => [0x18#8, v]
  | .add_hl_de => [0x19#8]
  | .ld_a_mde => [0x1A#8]
  | .dec_de => [0x1B#8]
  | .inc_e => [0x1C#8]
  | .dec_e => [0x1D#8]
  | .ld_e_d8 v => [0x1E#8, v]
  | .rra => [0x1F#8]
  | .jr_nz_s8 v => [0x20#8, v]
  | .ld_hl_d16 v => [0x21#8, Machine.loByte v, Machine.hiByte v]
  | .ld_mhli_a => [0x22#8]
  | .inc_hl => [0x23#8]
  | .inc_h => [0x24#8]
  | .dec_h => [0x25#8]
  | .ld_h_d8 v => [0x26#8, v]
  | .daa => [0x27#8]
  | .jr_z_s8 v => [0x28#8, v]
  | .add_hl_hl => [0x29#8]
  | .ld_a_mhli => [0x2A#8]
  | .dec_hl => [0x2B#8]
  | .inc_l => [0x2C#8]
  | .dec_l => [0x2D#8]
  | .ld_l_d8 v => [0x2E#8, v]
  | .cpl => [0x2F#8]
  | .jr_nc_s8 v => [0x30#8, v]
  | .ld_sp_d16 v => [0x31#8, Machine.loByte v, Machine.hiByte v]
  | .ld_mhld_a => [0x32#8]
  | .inc_sp => [0x33#8]
  | .inc_mhl => [0x34#8]
  | .dec_mhl => [0x35#8]
  | .ld_mhl_d8 v => [0x36#8, v]
  | .scf => [0x37#8]
  | .jr_c_s8 v => [0x38#8, v]
  | .add_hl_sp => [0x39#8]
  | .ld_a_mhld => [0x3A#8]
  | .dec_sp => [0x3B#8]
  | .inc_a => [0x3C#8]
  | .dec_a => [0x3D#8]
  | .ld_a_d8 v => [0x3E#8, v]
  | .ccf => [0x3F#8]
  | .ld_b_b => [0x40#8]
  | .ld_b_c => [0x41#8]
  | .ld_b_d => [0x42#8]
  | .ld_b_e => [0x43#8]
  | .ld_b_h => [0x44#8]
  | .ld_b_l => [0x45#8]
  | .ld_b_mhl => [0x46#8]
  | .ld_b_a => [0x47#8]
  | .ld_c_b => [0x48#8]
  | .ld_c_c => [0x49#8]
  | .ld_c_d => [0x4A#8]
  | .ld_c_e => [0x4B#8]
  | .ld_c_h => [0x4C#8]
  | .ld_c_l => [0x4D#8]
  | .ld_c_mhl => [0x4E#8]
  | .ld_c_a => [0x4F#8]
  | .ld_d_b => [0x50#8]
  | .ld_d_c => [0x51#8]
  | .ld_d_d => [0x52#8]
  | .ld_d_e => [0x53#8]
  | .ld_d_h => [0x54#8]
  | .ld_d_l => [0x55#8]
  | .ld_d_mhl => [0x56#8]
  | .ld_d_a => [0x57#8]
  | .ld_e_b => [0x58#8]
  | .ld_e_c => [0x59#8]
  | .ld_e_d => [0x5A#8]
  | .ld_e_e => [0x5B#8]
  | .ld_e_h => [0x5C#8]
  | .ld_e_l => [0x5D#8]
  | .ld_e_mhl => [0x5E#8]
  | .ld_e_a => [0x5F#8]
  | .ld_h_b => [0x60#8]
  | .ld_h_c => [0x61#8]
  | .ld_h_d => [0x62#8]
  | .ld_h_e => [0x63#8]
  | .ld_h_h => [0x64#8]
  | .ld_h_l => [0x65#8]
  | .ld_h_mhl => [0x66#8]
  | .ld_h_a => [0x67#8]
  | .ld_l_b => [0x68#8]
  | .ld_l_c => [0x69#8]
  | .ld_l_d => [0x6A#8]
  | .ld_l_e => [0x6B#8]
  | .ld_l_h => [0x6C#8]
  | .ld_l_l => [0x6D#8]
  | .ld_l_mhl => [0x6E#8]
  | .ld_l_a => [0x6F#8]
  | .ld_mhl_b => [0x70#8]
  | .ld_mhl_c => [0x71#8]
  | .ld_mhl_d => [0x72#8]
  | .ld_mhl_e => [0x73#8]
  | .ld_mhl_h => [0x74#8]
  | .ld_mhl_l => [0x75#8]
  | .halt => [0x76#8]
  | .ld_mhl_a => [0x77#8]
  | .ld_a_b => [0x78#8]
  | .ld_a_c => [0x79#8]
  | .ld_a_d => [0x7A#8]
  | .ld_a_e => [0x7B#8]
  | .ld_a_h => [0x7C#8]
  | .ld_a_l => [0x7D#8]
  | .ld_a_mhl => [0x7E#8]
  | .ld_a_a => [0x7F#8]
  | .add_a_b => [0x80#8]
  | .add_a_c => [0x81#8]
  | .add_a_d => [0x82#8]
  | .add_a_e => [0x83#8]
  | .add_a_h => [0x84#8]
  | .add_a_l => [0x85#8]
  | .add_a_mhl => [0x86#8]
  | .add_a_a => [0x87#8]
  | .adc_a_b => [0x88#8]
  | .adc_a_c => [0x89#8]
  | .adc_a_d => [0x8A#8]
  | .adc_a_e => [0x8B#8]
  | .adc_a_h => [0x8C#8]
  | .adc_a_l => [0x8D#8]
  | .adc_a_mhl => [0x8E#8]
  | .adc_a_a => [0x8F#8]
  | .sub_b => [0x90#8]
  | .sub_c => [0x91#8]
  | .sub_d => [0x92#8]
  | .sub_e => [0x93#8]
  | .sub_h => [0x94#8]
  | .sub_l => [0x95#8]
  | .sub_mhl => [0x96#8]
  | .sub_a => [0x97#8]
  | .sbc_a_b => [0x98#8]
  | .sbc_a_c => [0x99#8]
  | .sbc_a_d => [0x9A#8]
  | .sbc_a_e => [0x9B#8]
  | .sbc_a_h => [0x9C#8]
  | .sbc_a_l => [0x9D#8]
  | .sbc_a_mhl => [0x9E#8]
  | .sbc_a_a => [0x9F#8]
  | .and_b => [0xA0#8]
  | .and_c => [0xA1#8]
  | .and_d => [0xA2#8]
  | .and_e => [0xA3#8]
  | .and_h => [0xA4#8]
  | .and_l => [0xA5#8]
  | .and_mhl => [0xA6#8]
  | .and_a => [0xA7#8]
  | .xor_b => [0xA8#8]
  | .xor_c => [0xA9#8]
  | .xor_d => [0xAA#8]
  | .xor_e => [0xAB#8]
  | .xor_h => [0xAC#8]
  | .xor_l => [0xAD#8]
  | .xor_mhl => [0xAE#8]
  | .xor_a => [0xAF#8]
  | .or_b => [0xB0#8]
  | .or_c => [0xB1#8]
  | .or_d => [0xB2#8]
  | .or_e => [0xB3#8]
  | .or_h => [0xB4#8]
  | .or_l => [0xB5#8]
  | .or_mhl => [0xB6#8]
  | .or_a => [0xB7#8]
  | .cp_b => [0xB8#8]
  | .cp_c => [0xB9#8]
  | .cp_d => [0xBA#8]
  | .cp_e => [0xBB#8]
  | .cp_h => [0xBC#8]
  | .cp_l => [0xBD#8]
  | .cp_mhl => [0xBE#8]
  | .cp_a => [0xBF#8]
  | .ret_nz => [0xC0#8]
  | .pop_bc => [0xC1#8]
  | .jp_nz_a16 v => [0xC2#8, Machine.loByte v, Machine.hiByte v]
  | .jp_a16 v => [0xC3#8, Machine.loByte v, Machine.hiByte v]
  | .call_nz_a16 v => [0xC4#8, Machine.loByte v, Machine.hiByte v]
  | .push_bc => [0xC5#8]
  | .add_a_d8 v => [0xC6#8, v]
  | .rst_00 => [0xC7#8]
  | .ret_z => [0xC8#8]
  | .ret => [0xC9#8]
  | .jp_z_a16 v => [0xCA#8, Machine.loByte v, Machine.hiByte v]
  | .prefix_cb cb => [0xCB#8, cb]
  | .call_z_a16 v => [0xCC#8, Machine.loByte v, Machine.hiByte v]
  | .call_a16 v => [0xCD#8, Machine.loByte v, Machine.hiByte v]
  | .adc_a_d8 v => [0xCE#8, v]
  | .rst_08 => [0xCF#8]
  | .ret_nc => [0xD0#8]
  | .pop_de => [0xD1#8]
  | .jp_nc_a16 v => [0xD2#8, Machine.loByte v, Machine.hiByte v]
  | .illegal_d3 => [0xD3#8]
  | .call_nc_a16 v => [0xD4#8, Machine.loByte v, Machine.hiByte v]
  | .push_de => [0xD5#8]
  | .sub_d8 v => [0xD6#8, v]
  | .rst_10 => [0xD7#8]
  | .ret_c => [0xD8#8]
  | .reti => [0xD9#8]
  | .jp_c_a16 v => [0xDA#8, Machine.loByte v, Machine.hiByte v]
  | .illegal_db => [0xDB#8]
  | .call_c_a16 v => [0xDC#8, Machine.loByte v, Machine.hiByte v]
  | .illegal_dd => [0xDD#8]
  | .sbc_a_d8 v => [0xDE#8, v]
  | .rst_18 => [0xDF#8]
  | .ldh_ma8_a v => [0xE0#8, v]
  | .pop_hl => [0xE1#8]
  | .ld_mc_a => [0xE2#8]
  | .illegal_e3 => [0xE3#8]
  | .illegal_e4 => [0xE4#8]
  | .push_hl => [0xE5#8]
  | .and_d8 v => [0xE6#8, v]
  | .rst_20 => [0xE7#8]
  | .add_sp_s8 v => [0xE8#8, v]
  | .jp_hl => [0xE9#8]
  | .ld_ma16_a v => [0xEA#8, Machine.loByte v, Machine.hiByte v]
  | .illegal_eb => [0xEB#8]
  | .illegal_ec => [0xEC#8]
  | .illegal_ed => [0xED#8]
  | .xor_d8 v => [0xEE#8, v]
  | .rst_28 => [0xEF#8]
  | .ldh_a_ma8 v => [0xF0#8, v]
  | .pop_af => [0xF1#8]
  | .ld_a_mc => [0xF2#8]
  | .di => [0xF3#8]
  | .illegal_f4 => [0xF4#8]
  | .push_af => [0xF5#8]
  | .or_d8 v => [0xF6#8, v]
  | .rst_30 => [0xF7#8]
  | .ld_hl_sp_s8 v => [0xF8#8, v]
  | .ld_sp_hl => [0xF9#8]
  | .ld_a_ma16 v => [0xFA#8, Machine.loByte v, Machine.hiByte v]
  | .ei => [0xFB#8]
  | .illegal_fc => [0xFC#8]
  | .illegal_fd => [0xFD#8]
  | .cp_d8 v => [0xFE#8, v]
  | .rst_38 => [0xFF#8]
  | .rlc_b => [0xCB#8, 0x00#8]
  | .rlc_c => [0xCB#8, 0x01#8]
  | .rlc_d => [0xCB#8, 0x02#8]
  | .rlc_e => [0xCB#8, 0x03#8]
  | .rlc_h => [0xCB#8, 0x04#8]
  | .rlc_l => [0xCB#8, 0x05#8]
  | .rlc_mhl => [0xCB#8, 0x06#8]
  | .rlc_a => [0xCB#8, 0x07#8]
  | .rrc_b => [0xCB#8, 0x08#8]
  | .rrc_c => [0xCB#8, 0x09#8]
  | .rrc_d => [0xCB#8, 0x0A#8]
  | .rrc_e => [0xCB#8, 0x0B#8]
  | .rrc_h => [0xCB#8, 0x0C#8]
  | .rrc_l => [0xCB#8, 0x0D#8]
  | .rrc_mhl => [0xCB#8, 0x0E#8]
  | .rrc_a => [0xCB#8, 0x0F#8]
  | .rl_b => [0xCB#8, 0x10#8]
  | .rl_c => [0xCB#8, 0x11#8]
  | .rl_d => [0xCB#8, 0x12#8]
  | .rl_e => [0xCB#8, 0x13#8]
  | .rl_h => [0xCB#8, 0x14#8]
  | .rl_l => [0xCB#8, 0x15#8]
  | .rl_mhl => [0xCB#8, 0x16#8]
  | .rl_a => [0xCB#8, 0x17#8]
  | .rr_b => [0xCB#8, 0x18#8]
  | .rr_c => [0xCB#8, 0x19#8]
  | .rr_d => [0xCB#8, 0x1A#8]
  | .rr_e => [0xCB#8, 0x1B#8]
  | .rr_h => [0xCB#8, 0x1C#8]
  | .rr_l => [0xCB#8, 0x1D#8]
  | .rr_mhl => [0xCB#8, 0x1E#8]
  | .rr_a => [0xCB#8, 0x1F#8]
  | .sla_b => [0xCB#8, 0x20#8]
  | .sla_c => [0xCB#8, 0x21#8]
  | .sla_d => [0xCB#8, 0x22#8]
  | .sla_e => [0xCB#8, 0x23#8]
  | .sla_h => [0xCB#8, 0x24#8]
  | .sla_l => [0xCB#8, 0x25#8]
  | .sla_mhl => [0xCB#8, 0x26#8]
  | .sla_a => [0xCB#8, 0x27#8]
  | .sra_b => [0xCB#8, 0x28#8]
  | .sra_c => [0xCB#8, 0x29#8]
  | .sra_d => [0xCB#8, 0x2A#8]
  | .sra_e => [0xCB#8, 0x2B#8]
  | .sra_h => [0xCB#8, 0x2C#8]
  | .sra_l => [0xCB#8, 0x2D#8]
  | .sra_mhl => [0xCB#8, 0x2E#8]
  | .sra_a => [0xCB#8, 0x2F#8]
  | .swap_b => [0xCB#8, 0x30#8]
  | .swap_c => [0xCB#8, 0x31#8]
  | .swap_d => [0xCB#8, 0x32#8]
  | .swap_e => [0xCB#8, 0x33#8]
  | .swap_h => [0xCB#8, 0x34#8]
  | .swap_l => [0xCB#8, 0x35#8]
  | .swap_mhl => [0xCB#8, 0x36#8]
  | .swap_a => [0xCB#8, 0x37#8]
  | .srl_b => [0xCB#8, 0x38#8]
  | .srl_c => [0xCB#8, 0x39#8]
  | .srl_d => [0xCB#8, 0x3A#8]
  | .srl_e => [0xCB#8, 0x3B#8]
  | .srl_h => [0xCB#8, 0x3C#8]
  | .srl_l => [0xCB#8, 0x3D#8]
  | .srl_mhl => [0xCB#8, 0x3E#8]
  | .srl_a => [0xCB#8, 0x3F#8]
  | .bit_0_b => [0xCB#8, 0x40#8]
  | .bit_0_c => [0xCB#8, 0x41#8]
  | .bit_0_d => [0xCB#8, 0x42#8]
  | .bit_0_e => [0xCB#8, 0x43#8]
  | .bit_0_h => [0xCB#8, 0x44#8]
  | .bit_0_l => [0xCB#8, 0x45#8]
  | .bit_0_mhl => [0xCB#8, 0x46#8]
  | .bit_0_a => [0xCB#8, 0x47#8]
  | .bit_1_b => [0xCB#8, 0x48#8]
  | .bit_1_c => [0xCB#8, 0x49#8]
  | .bit_1_d => [0xCB#8, 0x4A#8]
  | .bit_1_e => [0xCB#8, 0x4B#8]
  | .bit_1_h => [0xCB#8, 0x4C#8]
  | .bit_1_l => [0xCB#8, 0x4D#8]
  | .bit_1_mhl => [0xCB#8, 0x4E#8]
  | .bit_1_a => [0xCB#8, 0x4F#8]
  | .bit_2_b => [0xCB#8, 0x50#8]
  | .bit_2_c => [0xCB#8, 0x51#8]
  | .bit_2_d => [0xCB#8, 0x52#8]
  | .bit_2_e => [0xCB#8, 0x53#8]
  | .bit_2_h => [0xCB#8, 0x54#8]
  | .bit_2_l => [0xCB#8, 0x55#8]
  | .bit_2_mhl => [0xCB#8, 0x56#8]
  | .bit_2_a => [0xCB#8, 0x57#8]
  | .bit_3_b => [0xCB#8, 0x58#8]
  | .bit_3_c => [0xCB#8, 0x59#8]
  | .bit_3_d => [0xCB#8, 0x5A#8]
  | .bit_3_e => [0xCB#8, 0x5B#8]
  | .bit_3_h => [0xCB#8, 0x5C#8]
  | .bit_3_l => [0xCB#8, 0x5D#8]
  | .bit_3_mhl => [0xCB#8, 0x5E#8]
  | .bit_3_a => [0xCB#8, 0x5F#8]
  | .bit_4_b => [0xCB#8, 0x60#8]
  | .bit_4_c => [0xCB#8, 0x61#8]
  | .bit_4_d => [0xCB#8, 0x62#8]
  | .bit_4_e => [0xCB#8, 0x63#8]
  | .bit_4_h => [0xCB#8, 0x64#8]
  | .bit_4_l => [0xCB#8, 0x65#8]
  | .bit_4_mhl => [0xCB#8, 0x66#8]
  | .bit_4_a => [0xCB#8, 0x67#8]
  | .bit_5_b => [0xCB#8, 0x68#8]
  | .bit_5_c => [0xCB#8, 0x69#8]
  | .bit_5_d => [0xCB#8, 0x6A#8]
  | .bit_5_e => [0xCB#8, 0x6B#8]
  | .bit_5_h => [0xCB#8, 0x6C#8]
  | .bit_5_l => [0xCB#8, 0x6D#8]
  | .bit_5_mhl => [0xCB#8, 0x6E#8]
  | .bit_5_a => [0xCB#8, 0x6F#8]
  | .bit_6_b => [0xCB#8, 0x70#8]
  | .bit_6_c => [0xCB#8, 0x71#8]
  | .bit_6_d => [0xCB#8, 0x72#8]
  | .bit_6_e => [0xCB#8, 0x73#8]
  | .bit_6_h => [0xCB#8, 0x74#8]
  | .bit_6_l => [0xCB#8, 0x75#8]
  | .bit_6_mhl => [0xCB#8, 0x76#8]
  | .bit_6_a => [0xCB#8, 0x77#8]
  | .bit_7_b => [0xCB#8, 0x78#8]
  | .bit_7_c => [0xCB#8, 0x79#8]
  | .bit_7_d => [0xCB#8, 0x7A#8]
  | .bit_7_e => [0xCB#8, 0x7B#8]
  | .bit_7_h => [0xCB#8, 0x7C#8]
  | .bit_7_l => [0xCB#8, 0x7D#8]
  | .bit_7_mhl => [0xCB#8, 0x7E#8]
  | .bit_7_a => [0xCB#8, 0x7F#8]
  | .res_0_b => [0xCB#8, 0x80#8]
  | .res_0_c => [0xCB#8, 0x81#8]
  | .res_0_d => [0xCB#8, 0x82#8]
  | .res_0_e => [0xCB#8, 0x83#8]
  | .res_0_h => [0xCB#8, 0x84#8]
  | .res_0_l => [0xCB#8, 0x85#8]
  | .res_0_mhl => [0xCB#8, 0x86#8]
  | .res_0_a => [0xCB#8, 0x87#8]
  | .res_1_b => [0xCB#8, 0x88#8]
  | .res_1_c => [0xCB#8, 0x89#8]
  | .res_1_d => [0xCB#8, 0x8A#8]
  | .res_1_e => [0xCB#8, 0x8B#8]
  | .res_1_h => [0xCB#8, 0x8C#8]
  | .res_1_l => [0xCB#8, 0x8D#8]
  | .res_1_mhl => [0xCB#8, 0x8E#8]
  | .res_1_a => [0xCB#8, 0x8F#8]
  | .res_2_b => [0xCB#8, 0x90#8]
  | .res_2_c => [0xCB#8, 0x91#8]
  | .res_2_d => [0xCB#8, 0x92#8]
  | .res_2_e => [0xCB#8, 0x93#8]
  | .res_2_h => [0xCB#8, 0x94#8]
  | .res_2_l => [0xCB#8, 0x95#8]
  | .res_2_mhl => [0xCB#8, 0x96#8]
  | .res_2_a => [0xCB#8, 0x97#8]
  | .res_3_b => [0xCB#8, 0x98#8]
  | .res_3_c => [0xCB#8, 0x99#8]
  | .res_3_d => [0xCB#8, 0x9A#8]
  | .res_3_e => [0xCB#8, 0x9B#8]
  | .res_3_h => [0xCB#8, 0x9C#8]
  | .res_3_l => [0xCB#8, 0x9D#8]
  | .res_3_mhl => [0xCB#8, 0x9E#8]
  | .res_3_a => [0xCB#8, 0x9F#8]
  | .res_4_b => [0xCB#8, 0xA0#8]
  | .res_4_c => [0xCB#8, 0xA1#8]
  | .res_4_d => [0xCB#8, 0xA2#8]
  | .res_4_e => [0xCB#8, 0xA3#8]
  | .res_4_h => [0xCB#8, 0xA4#8]
  | .res_4_l => [0xCB#8, 0xA5#8]
  | .res_4_mhl => [0xCB#8, 0xA6#8]
  | .res_4_a => [0xCB#8, 0xA7#8]
  | .res_5_b => [0xCB#8, 0xA8#8]
  | .res_5_c => [0xCB#8, 0xA9#8]
  | .res_5_d => [0xCB#8, 0xAA#8]
  | .res_5_e => [0xCB#8, 0xAB#8]
  | .res_5_h => [0xCB#8, 0xAC#8]
  | .res_5_l => [0xCB#8, 0xAD#8]
  | .res_5_mhl => [0xCB#8, 0xAE#8]
  | .res_5_a => [0xCB#8, 0xAF#8]
  | .res_6_b => [0xCB#8, 0xB0#8]
  | .res_6_c => [0xCB#8, 0xB1#8]
  | .res_6_d => [0xCB#8, 0xB2#8]
  | .res_6_e => [0xCB#8, 0xB3#8]
  | .res_6_h => [0xCB#8, 0xB4#8]
  | .res_6_l => [0xCB#8, 0xB5#8]
  | .res_6_mhl => [0xCB#8, 0xB6#8]
  | .res_6_a => [0xCB#8, 0xB7#8]
  | .res_7_b => [0xCB#8, 0xB8#8]
  | .res_7_c => [0xCB#8, 0xB9#8]
  | .res_7_d => [0xCB#8, 0xBA#8]
  | .res_7_e => [0xCB#8, 0xBB#8]
  | .res_7_h => [0xCB#8, 0xBC#8]
  | .res_7_l => [0xCB#8, 0xBD#8]
  | .res_7_mhl => [0xCB#8, 0xBE#8]
  | .res_7_a => [0xCB#8, 0xBF#8]
  | .set_0_b => [0xCB#8, 0xC0#8]
  | .set_0_c => [0xCB#8, 0xC1#8]
  | .set_0_d => [0xCB#8, 0xC2#8]
  | .set_0_e => [0xCB#8, 0xC3#8]
  | .set_0_h => [0xCB#8, 0xC4#8]
  | .set_0_l => [0xCB#8, 0xC5#8]
  | .set_0_mhl => [0xCB#8, 0xC6#8]
  | .set_0_a => [0xCB#8, 0xC7#8]
  | .set_1_b => [0xCB#8, 0xC8#8]
  | .set_1_c => [0xCB#8, 0xC9#8]
  | .set_1_d => [0xCB#8, 0xCA#8]
  | .set_1_e => [0xCB#8, 0xCB#8]
  | .set_1_h => [0xCB#8, 0xCC#8]
  | .set_1_l => [0xCB#8, 0xCD#8]
  | .set_1_mhl => [0xCB#8, 0xCE#8]
  | .set_1_a => [0xCB#8, 0xCF#8]
  | .set_2_b => [0xCB#8, 0xD0#8]
  | .set_2_c => [0xCB#8, 0xD1#8]
  | .set_2_d => [0xCB#8, 0xD2#8]
  | .set_2_e => [0xCB#8, 0xD3#8]
  | .set_2_h => [0xCB#8, 0xD4#8]
  | .set_2_l => [0xCB#8, 0xD5#8]
  | .set_2_mhl => [0xCB#8, 0xD6#8]
  | .set_2_a => [0xCB#8, 0xD7#8]
  | .set_3_b => [0xCB#8, 0xD8#8]
  | .set_3_c => [0xCB#8, 0xD9#8]
  | .set_3_d => [0xCB#8, 0xDA#8]
  | .set_3_e => [0xCB#8, 0xDB#8]
  | .set_3_h => [0xCB#8, 0xDC#8]
  | .set_3_l => [0xCB#8, 0xDD#8]
  | .set_3_mhl => [0xCB#8, 0xDE#8]
  | .set_3_a => [0xCB#8, 0xDF#8]
  | .set_4_b => [0xCB#8, 0xE0#8]
  | .set_4_c => [0xCB#8, 0xE1#8]
  | .set_4_d => [0xCB#8, 0xE2#8]
  | .set_4_e => [0xCB#8, 0xE3#8]
  | .set_4_h => [0xCB#8, 0xE4#8]
  | .set_4_l => [0xCB#8, 0xE5#8]
  | .set_4_mhl => [0xCB#8, 0xE6#8]
  | .set_4_a => [0xCB#8, 0xE7#8]
  | .set_5_b => [0xCB#8, 0xE8#8]
  | .set_5_c => [0xCB#8, 0xE9#8]
  | .set_5_d => [0xCB#8, 0xEA#8]
  | .set_5_e => [0xCB#8, 0xEB#8]
  | .set_5_h => [0xCB#8, 0xEC#8]
  | .set_5_l => [0xCB#8, 0xED#8]
  | .set_5_mhl => [0xCB#8, 0xEE#8]
  | .set_5_a => [0xCB#8, 0xEF#8]
  | .set_6_b => [0xCB#8, 0xF0#8]
  | .set_6_c => [0xCB#8, 0xF1#8]
  | .set_6_d => [0xCB#8, 0xF2#8]
  | .set_6_e => [0xCB#8, 0xF3#8]
  | .set_6_h => [0xCB#8, 0xF4#8]
  | .set_6_l => [0xCB#8, 0xF5#8]
  | .set_6_mhl => [0xCB#8, 0xF6#8]
  | .set_6_a => [0xCB#8, 0xF7#8]
  | .set_7_b => [0xCB#8, 0xF8#8]
  | .set_7_c => [0xCB#8, 0xF9#8]
  | .set_7_d => [0xCB#8, 0xFA#8]
  | .set_7_e => [0xCB#8, 0xFB#8]
  | .set_7_h => [0xCB#8, 0xFC#8]
  | .set_7_l => [0xCB#8, 0xFD#8]
  | .set_7_mhl => [0xCB#8, 0xFE#8]
  | .set_7_a => [0xCB#8, 0xFF#8]

/-- The bytes of a row of opcode_table.json: the lowest byte first, the bits above the row's zero. A 16-bit row, which is
a CB row, is numbered `byte0 * 256 + byte1` (R128), so its prefix stands in bits 15..8; a word with the prefix in its low
byte is read in the order of the bytes (assumption log 7). -/
def tableBytes (nbits w : Nat) : Byte × Byte × Byte :=
  let b0 := BitVec.ofNat 8 w
  let b1 := BitVec.ofNat 8 (w / 256)
  let b2 := BitVec.ofNat 8 (w / 65536)
  if nbits = 16 ∧ b0 ≠ 0xCB#8 ∧ b1 = 0xCB#8 then (b1, b0, b2) else (b0, b1, b2)

/-- What the decoder reads from a row's bytes. -/
def decodeTableWord (nbits w : Nat) : Option Instr :=
  let t := tableBytes nbits w
  match decode [t.1, t.2.1, t.2.2] with
  | .ok (i, _) => some i
  | .error _ => none

end Sys2Proof
end

