-- ==== Sys2Proof/Machine/SystemInstr.lean ====
section
/-! DEFINITION. The meanings of NOP, HALT, STOP, DI, EI, the prefix 0xCB and the eleven undefined opcodes
(spec 45_system.md). -/

namespace Sys2Proof.Machine

/-- An undefined opcode (R266): the event, then exactly as NOP (assumption log 10). -/
def undefinedOpcode (op : Byte) (s : State) : Result := complete 4 (raiseIllegal op s)

/-- NOP (R260). -/
def exec_nop (s : State) : Result := complete 4 s

/-- STOP (R262): the pad byte has no effect; nothing stops (assumption log 11). -/
def exec_stop (_pad : Byte) (s : State) : Result := complete 4 s

/-- HALT (R261): the second case only when the parameter HALT_BUG is true. DESIGN CHOICE (assumption log 23): for `EI; HALT`
with HALT_BUG true and a request pending, which 91_not_in_source.md N26 leaves open and where R261's pseudocode (IME is
still false: no halt, the latch set) and the prose of R261 and R283 (`halted` becomes true) differ, the pseudocode. -/
def exec_halt (s : State) : Result :=
  complete 4 (if s.haltBug && !s.cpu.ime && decide (s.pend ≠ 0#5) then (s.setHalted false).setHaltBugLatch true else s.setHalted true)

/-- PREFIX CB (R265): the CB instruction that `cb` selects; the prefix has no effect of its own. -/
def exec_prefix_cb (cb : Byte) (s : State) : Result :=
  let y := fieldY cb
  let r := Loc8.ofCode (fieldZ cb)
  match fieldX cb with
  | 0 => rotAt (RotOp.ofCode y) r s
  | 1 => bitAt (Index8.ofCode y) r s
  | 2 => resAt (Index8.ofCode y) r s
  | _ => setAt (Index8.ofCode y) r s

/-- ILLEGAL_D3 (R266). -/
def exec_illegal_d3 (s : State) : Result := undefinedOpcode 0xD3#8 s

/-- ILLEGAL_DB (R266). -/
def exec_illegal_db (s : State) : Result := undefinedOpcode 0xDB#8 s

/-- ILLEGAL_DD (R266). -/
def exec_illegal_dd (s : State) : Result := undefinedOpcode 0xDD#8 s

/-- ILLEGAL_E3 (R266). -/
def exec_illegal_e3 (s : State) : Result := undefinedOpcode 0xE3#8 s

/-- ILLEGAL_E4 (R266). -/
def exec_illegal_e4 (s : State) : Result := undefinedOpcode 0xE4#8 s

/-- ILLEGAL_EB (R266). -/
def exec_illegal_eb (s : State) : Result := undefinedOpcode 0xEB#8 s

/-- ILLEGAL_EC (R266). -/
def exec_illegal_ec (s : State) : Result := undefinedOpcode 0xEC#8 s

/-- ILLEGAL_ED (R266). -/
def exec_illegal_ed (s : State) : Result := undefinedOpcode 0xED#8 s

/-- DI (R263). -/
def exec_di (s : State) : Result := complete 4 ((s.setIme false).setImePending false)

/-- ILLEGAL_F4 (R266). -/
def exec_illegal_f4 (s : State) : Result := undefinedOpcode 0xF4#8 s

/-- EI (R264): only the latch; IME follows after the next instruction (49_machine_step.md R283). -/
def exec_ei (s : State) : Result := complete 4 (s.setImePending true)

/-- ILLEGAL_FC (R266). -/
def exec_illegal_fc (s : State) : Result := undefinedOpcode 0xFC#8 s

/-- ILLEGAL_FD (R266). -/
def exec_illegal_fd (s : State) : Result := undefinedOpcode 0xFD#8 s

end Sys2Proof.Machine
end

