-- ==== Sys2Proof/Machine/CpuStep.lean ====
section
/-! DEFINITION. The CPU step and the machine step (spec 49_machine_step.md R280 to R291): the host's events, the
interrupt and halted check, fetch, decode, execution with the EI latch, then the timer and PPU ticks. `step`, in
Machine/Step.lean, is `machineStep`. -/

namespace Sys2Proof.Machine

/-- `FetchOpcode()`'s effect on PC and the latch (R291): PC stands still only when HALT_BUG is true and the latch set. -/
def opcodeFetched (s : State) : State :=
  if s.haltBug && s.cpu.haltBugLatch then s.setHaltBugLatch false else s.setPc (s.cpu.pc + 1#16)

/-- The instruction at PC (30_encoding.md R112): the opcode, and the two bytes that follow its fetch, of which the
instruction uses as many as it is long. Reading a byte it does not use changes nothing (20_memory.md R62). -/
def fetchInstr (s : State) : Instr :=
  let p := (opcodeFetched s).cpu.pc
  decodeAt (memRead s s.cpu.pc) (memRead s p) (memRead s (p + 1#16))

/-- The state after the instruction's bytes have been fetched: PC past the whole instruction (10_state.md R23,
30_encoding.md R117, R118). -/
def instrFetched (s : State) : State :=
  let t := opcodeFetched s
  t.setPc (t.cpu.pc + BitVec.ofNat 16 ((fetchInstr s).length - 1))

/-- The promotion of the EI latch at the end of `ExecuteOne()` (R283). -/
def promoteEi (latchBefore : Bool) (t : State) : State :=
  if latchBefore && t.cpu.imePending then (t.setIme true).setImePending false else t

/-- `ExecuteOne()` (R283). -/
def executeOne (s : State) : Result :=
  match exec (fetchInstr s) (instrFetched s) with
  | .next t => .next (promoteEi s.cpu.imePending t)
  | .fault r => .fault r
  | .refused r => .refused r

/-- `CpuStep()` (R280, R281): an idle step, an interrupt dispatch, or one instruction. -/
def cpuStep (s : State) : Result :=
  if s.cpu.halted && decide (s.pend = 0#5) then complete Config.idleCycles s
  else
    let s' := s.setHalted false
    if s.cpu.ime && decide (s.pend ≠ 0#5) then .next (takeInterrupt (highestPriority s.pend) s')
    else executeOne s'

/-- One host event (R289). -/
def hostAct (e : HostAction) (s : State) : State :=
  match e with
  | .setButtons b => setButtons b s
  | .takeFrame => { s with ppu := { s.ppu with frameReady := false } }

/-- The host's events that are due before this machine step, in their order; the rest stay in the list (R289;
assumption log 13). -/
def deliverFrom : List HostEvent → State → State
  | [], s => { s with inputs := [] }
  | e :: rest, s =>
    if e.before ≤ s.stepIndex then deliverFrom rest (hostAct e.action s) else { s with inputs := e :: rest }

/-- The state that the CPU step of a machine step starts from. -/
def delivered (s : State) : State := deliverFrom s.inputs s

/-- The timer's ticks, then the PPU's, by the cycles the CPU step returned (R284, R287). -/
def tickDevices (s : State) : State :=
  let t := ppuTick s.cycles (timerTick s.cycles s)
  { t with stepIndex := t.stepIndex + 1 }

/-- `MachineStep()` (R284), with the host's events that precede it. -/
def machineStep (s : State) : Result :=
  match cpuStep (delivered s) with
  | .next t => .next (tickDevices t)
  | .fault r => .fault r
  | .refused r => .refused r

/-- Put a byte where an instruction fetch at `addr` reads it: the boot image, the cartridge image, or a RAM. It is how
a program is placed from outside the machine (assumption log 6), not a bus write: no register changes, and an address
without a cell of its own takes nothing. -/
def placeByte (s : State) (addr : Word) (v : Byte) : State :=
  let a := addr.toNat
  match regionOf a with
  | .rom0 =>
    if a ≤ 0x00FF ∧ s.bootOn then { s with boot := Memory.write s.boot a v }
    else { s with cart := { s.cart with rom := Memory.write s.cart.rom a v } }
  | .romN =>
    match s.cart.cartType with
    | .romOnly => { s with cart := { s.cart with rom := Memory.write s.cart.rom a v } }
    | .mbc3 =>
      { s with cart := { s.cart with
          rom := Memory.write s.cart.rom (s.cart.romBank.toNat % s.cart.banks * 0x4000 + (a - 0x4000)) v } }
  | .vram => { s with ppu := { s.ppu with vram := Memory.write s.ppu.vram (a - 0x8000) v } }
  | .cartRam => { s with cart := cartRamWrite s.cart a v }
  | .wram => { s with wram := Memory.write s.wram (a - 0xC000) v }
  | .echo => { s with wram := Memory.write s.wram (a - 0xE000) v }
  | .oam => oamPut s (a - 0xFE00) v
  | .prohibited => s
  | .io => s
  | .hram => { s with hram := Memory.write s.hram (a - 0xFF80) v }
  | .ie => { s with intr := { s.intr with ie := v } }

/-- Nothing comes before the next fetch: not halted, no HALT-bug latch, and IME cleared if an interrupt would be
dispatched instead (assumption log 6). -/
def readyToFetch (s : State) : State :=
  let t := (s.setHalted false).setHaltBugLatch false
  if t.cpu.ime && decide ((delivered t).pend ≠ 0#5) then t.setIme false else t

end Sys2Proof.Machine
end

