-- ==== Sys2Proof/Machine/Step.lean ====
section
/-! DEFINITION. One step of the machine, and the placing of an instruction where the next step fetches it. -/

namespace Sys2Proof.Machine

/-- One machine step (spec 49_machine_step.md R284). -/
def step : State → Host.Outcome State Fault Refusal := machineStep

/-- The instruction whose bits are `w` (numbered as opcode_table.json numbers them, the bits above the row's zero), placed
at PC so that the next step fetches and runs it (assumption log 6). -/
def State.withFetchWord (s : State) (nbits w : Nat) : State :=
  let t := tableBytes nbits w
  let pc := s.cpu.pc
  readyToFetch (placeByte (placeByte (placeByte s pc t.1) (pc + 1#16) t.2.1) (pc + 2#16) t.2.2)

end Sys2Proof.Machine
end

