-- ==== Sys2Proof/Machine/HostLoop.lean ====
section
/-! DEFINITION. The host's use of the machine: `RunFrame()` (spec 49_machine_step.md R290). -/

namespace Sys2Proof.Machine

/-- `MachineStep()` until `frame_ready` is true; none when the fuel runs out first, which is the model's form of a
`RunFrame` that does not terminate (the LCD is off; assumption log 20). -/
def runUntilFrame : Nat → State → Option State
  | 0, _ => none
  | fuel + 1, s =>
    match step s with
    | .next t => if t.ppu.frameReady then some t else runUntilFrame fuel t
    | .fault _ => none
    | .refused _ => none

/-- `RunFrame()` (R290): the state at its end, whose `ppu.out` is the frame it returns. -/
def runFrame (fuel : Nat) (s : State) : Option State :=
  runUntilFrame fuel { s with ppu := { s.ppu with frameReady := false } }

end Sys2Proof.Machine
end

