-- ==== Sys2Proof/WellFormed.lean ====
section
/-! DEFINITION. When an instruction is well formed. Every operand of `Instr` has exactly the width and range that its
encoding gives it, so one check is left: the prefix byte with its sub-opcode is another name for the words of a CB
instruction (spec 45_system.md R265, "0xCB has no effect of its own"), whose own constructor is the well-formed one. -/

namespace Sys2Proof

/-- Is this the prefix row's constructor, which names no instruction of its own? -/
def Instr.isPrefix : Instr → Bool
  | .prefix_cb _ => true
  | _ => false

/-- Well-formed instructions: those the decoder gives and the encoder and decoder agree on. -/
def Instr.wellFormed (i : Instr) : Bool := !i.isPrefix

end Sys2Proof
end

