-- ==== Sys2Proof/Safety.lean ====
section
/-! DEFINITION. The terms in which claims about the machine are stated: the invariant of spec 49_machine_step.md R292,
the operand codes and the flag byte as the spec's tables number them, which addresses are plain memory cells, which an
instruction stores to, which instructions transfer control or write flags. Nothing here is used by the machine. -/

namespace Sys2Proof.Machine

/-! The numbers of the operand tables (30_encoding.md R113 to R116), written out independently of the decoder. -/

/-- The 3-bit code of a register (R113). -/
def regCode : Reg8 → Nat
  | .b => 0
  | .c => 1
  | .d => 2
  | .e => 3
  | .h => 4
  | .l => 5
  | .a => 7

/-- The 3-bit code of a location: 6 is the byte at HL (R113). -/
def locCode : Loc8 → Nat
  | .reg r => regCode r
  | .mhl => 6

/-- The 2-bit code of a pair (R114). -/
def rpCode : Rp → Nat
  | .bc => 0
  | .de => 1
  | .hl => 2
  | .sp => 3

/-- The 2-bit code of a pair of PUSH and POP (R114). -/
def rp2Code : Rp2 → Nat
  | .bc => 0
  | .de => 1
  | .hl => 2
  | .af => 3

/-- The 2-bit code of a condition (R115). -/
def condCode : Cond → Nat
  | .nz => 0
  | .z => 1
  | .nc => 2
  | .c => 3

/-- The 3-bit code of an ALU operation (R116). -/
def aluCode : AluOp → Nat
  | .add => 0
  | .adc => 1
  | .sub => 2
  | .sbc => 3
  | .and => 4
  | .xor => 5
  | .or => 6
  | .cp => 7

/-- The 3-bit code of a rotate or shift (R116). -/
def rotCode : RotOp → Nat
  | .rlc => 0
  | .rrc => 1
  | .rl => 2
  | .rr => 3
  | .sla => 4
  | .sra => 5
  | .swap => 6
  | .srl => 7

/-! Flags and arithmetic as the spec writes them. -/

/-- The flag byte with Z, N, Hf, Cy in bits 7, 6, 5, 4 and zero below (10_state.md R21). -/
def flagsOf (z n h c : Bool) : Byte := BitVec.ofNat 8 (128 * z.toNat + 64 * n.toNat + 32 * h.toNat + 16 * c.toNat)

/-- Is the carry flag of a flag byte set? (Bit 4, R21.) -/
def carryIn (s : State) : Bool := decide (s.cpu.f.toNat / 16 % 2 = 1)

/-- The zero flag of a state (bit 7, R21). -/
def zeroIn (s : State) : Bool := decide (s.cpu.f.toNat / 128 % 2 = 1)

/-- The subtract flag of a state (bit 6, R21). -/
def subIn (s : State) : Bool := decide (s.cpu.f.toNat / 64 % 2 = 1)

/-- The half-carry flag of a state (bit 5, R21). -/
def halfIn (s : State) : Bool := decide (s.cpu.f.toNat / 32 % 2 = 1)

/-- `cond(cc)` from the two flags as numbers (44_control_stack.md R242). -/
def condHolds (cc : Cond) (s : State) : Bool :=
  match cc with
  | .nz => !zeroIn s
  | .z => zeroIn s
  | .nc => !carryIn s
  | .c => carryIn s

/-- `sext(e)` as an integer: -128..127 (00_scope.md R7). -/
def signedByte (e : Byte) : Int := if e.toNat < 128 then e.toNat else (e.toNat : Int) - 256

/-- The bytes of a two-operand ALU instruction (40_alu8.md R142): `0b10 yyy zzz`, or `0b11 yyy 110` and the immediate. -/
def aluBytes (op : AluOp) : Operand8 → List Byte
  | .loc x => [BitVec.ofNat 8 (0x80 + 8 * aluCode op + locCode x)]
  | .imm v => [BitVec.ofNat 8 (0xC6 + 8 * aluCode op), v]

/-- What a rotate or shift makes of the number `v` with the carry `c` going in (42_rotate_shift_bit.md R185 to R192). -/
def rotated (op : RotOp) (v c : Nat) : Nat :=
  match op with
  | .rlc => 2 * v % 256 + v / 128
  | .rrc => v / 2 + 128 * (v % 2)
  | .rl => 2 * v % 256 + c
  | .rr => v / 2 + 128 * c
  | .sla => 2 * v % 256
  | .sra => v / 2 + v / 128 * 128
  | .swap => v % 16 * 16 + v / 16
  | .srl => v / 2

/-- The bit shifted out: bit 7 to the left, bit 0 to the right, none for SWAP (R185 to R192). -/
def shiftedOut (op : RotOp) (v : Nat) : Bool :=
  match op with
  | .rlc => decide (v / 128 = 1)
  | .rl => decide (v / 128 = 1)
  | .sla => decide (v / 128 = 1)
  | .rrc => decide (v % 2 = 1)
  | .rr => decide (v % 2 = 1)
  | .sra => decide (v % 2 = 1)
  | .srl => decide (v % 2 = 1)
  | .swap => false

/-- Two decimal digits as a byte. -/
def bcdByte (n : Nat) : Byte := BitVec.ofNat 8 (n / 10 * 16 + n % 10)

/-- A state whose step answered: the CPU registers and the T-cycle count replaced, nothing else. -/
def State.withCpu (s : State) (c : Cpu) (n : Nat) : State := { s with cpu := c, cycles := n }

/-- The state with A and F replaced and the cycles of the step: the whole effect of an 8-bit ALU instruction. -/
def State.withAF (s : State) (a f : Byte) (n : Nat) : State := s.withCpu { s.cpu with a := a, f := f } n

/-- The state with F replaced and the cycles of the step. -/
def State.withF (s : State) (f : Byte) (n : Nat) : State := s.withCpu { s.cpu with f := f } n

/-- The state after a jump: PC replaced and the cycles of the step. -/
def State.jumped (s : State) (pc : Word) (n : Nat) : State := s.withCpu { s.cpu with pc := pc } n

/-- Two bytes written to the stack below SP, high byte first, SP decreased by 2 and PC set: the whole effect of a call
(44_control_stack.md R240). -/
def State.called (s : State) (ret pc : Word) (n : Nat) : State :=
  (memWrite (memWrite s (s.cpu.sp - 1#16) (BitVec.ofNat 8 (ret.toNat / 256))) (s.cpu.sp - 2#16)
    (BitVec.ofNat 8 (ret.toNat % 256))).withCpu { s.cpu with sp := s.cpu.sp - 2#16, pc := pc } n

/-- The state after the dispatch of source `i` (49_machine_step.md R282): IME, the EI latch (decision D2), `halted` and that
one bit of IF cleared, PC pushed, PC at 0x0040 + 8 * i, 20 T-cycles. -/
def State.dispatched (s : State) (i : Nat) : State :=
  State.called
    { s with
      cpu := { s.cpu with ime := false, imePending := false, halted := false }
      intr := { s.intr with flags := s.intr.flags &&& ~~~(BitVec.ofNat 5 (2 ^ i)) } }
    s.cpu.pc (BitVec.ofNat 16 (0x0040 + 8 * i)) 20

/-- Is source `i` the one that an interrupt check picks (R281, R282): enabled and pending, and no lower one is both? -/
def picks (s : State) (i : Nat) : Prop :=
  i < 5 ∧ s.intr.ie.getLsbD i = true ∧ s.intr.flags.getLsbD i = true
    ∧ ∀ j, j < i → ¬(s.intr.ie.getLsbD j = true ∧ s.intr.flags.getLsbD j = true)

/-- The word on the stack: low byte at SP, high byte at SP + 1 (44_control_stack.md R241). -/
def stackTop (s : State) : Word :=
  BitVec.ofNat 16 ((memRead s (s.cpu.sp + 1#16)).toNat * 256 + (memRead s s.cpu.sp).toNat)

/-- The state after a return: PC from the stack, SP increased by 2. -/
def State.returned (s : State) (n : Nat) : State := s.withCpu { s.cpu with sp := s.cpu.sp + 2#16, pc := stackTop s } n

/-! The invariant (49_machine_step.md R292). -/

/-- The mode as a function of the position, with the LCD on (48_ppu.md R311). -/
def modeAt (ly lx : Nat) : PpuMode :=
  if 144 ≤ ly then .vblank
  else if lx < 80 then .oamScan
  else if lx < 252 then .drawing
  else .hblank

/-- How many lines of the frame have been rendered at a position: a line is rendered at its dot 252 (48_ppu.md R310). -/
def linesRendered (ly lx : Nat) : Nat :=
  if 144 ≤ ly then 144 else if lx < 252 then ly else ly + 1

/-- What holds between any two machine steps: R292, with the constantly false latch of 10_state.md R30 and clauses that are
the model's choices or the spec's own decisions: the memories' canonical form (assumption log 2), the window counter up to
144 (log 12, DEDUCED), the RAM bank codes and the zero clock of the MBC3 (logs 17 and 18, decision D26), the LCD-off
position (decision D14, log 22). -/
structure Invariant (s : State) : Prop where
  flagsLow : s.cpu.f &&& 0x0F#8 = 0x00#8
  ly : s.ppu.ly < 154
  lx : s.ppu.lx < 456
  modeOn : lcdOn s.ppu = true → s.ppu.mode = modeAt s.ppu.ly s.ppu.lx
  lcdOff : lcdOn s.ppu = false → s.ppu.ly = 0 ∧ s.ppu.lx = 0 ∧ s.ppu.mode = .hblank
  windowLine : s.ppu.windowLine ≤ linesRendered s.ppu.ly s.ppu.lx
  sprites : s.ppu.sprites.length ≤ 10
  romBank : s.cart.romBank ≠ 0#7
  ramBank : s.cart.ramBank.toNat ≤ 3 ∨ (0x08 ≤ s.cart.ramBank.toNat ∧ s.cart.ramBank.toNat ≤ 0x0C)
  rtc : s.cart.rtcLatched = RtcRegs.zero
  memories : s.memoryWf = true
  haltBugLatch : s.haltBug = false → s.cpu.haltBugLatch = false

/-- The images of a launch are in canonical form, each inside its size (00_scope.md R6). -/
def Launch.imagesWf (l : Launch) : Bool :=
  Memory.wf Config.vramSize l.vram && Memory.wf Config.oamSize l.oam && Memory.wf Config.wramSize l.wram
    && Memory.wf Config.hramSize l.hram && Memory.wf Config.cramSize l.cram && Memory.wf (romSize l.banks) l.rom
    && l.boot.all (Memory.wf Config.bootSize)

/-- The launch parameters of two states agree (00_scope.md R6, 10_state.md R40). -/
def sameLaunch (s t : State) : Prop :=
  t.cart.cartType = s.cart.cartType ∧ t.cart.banks = s.cart.banks ∧ t.cart.rom = s.cart.rom ∧ t.boot = s.boot
    ∧ t.haltBug = s.haltBug

/-- Everything outside the CPU and the T-cycle count agrees: no memory, device, cartridge or host field changed. -/
def sameOutsideCpu (s t : State) : Prop :=
  t.intr = s.intr ∧ t.timer = s.timer ∧ t.joypad = s.joypad ∧ t.ppu = s.ppu ∧ t.cart = s.cart ∧ t.wram = s.wram
    ∧ t.hram = s.hram ∧ t.bootOn = s.bootOn ∧ t.boot = s.boot ∧ t.haltBug = s.haltBug ∧ t.inputs = s.inputs
    ∧ t.stepIndex = s.stepIndex

/-! Addresses. -/

/-- One number for each cell: an echo address and the WRAM address it stands for have the same (20_memory.md R66). -/
def cellOf (a : Word) : Nat := if 0xE000 ≤ a.toNat ∧ a.toNat ≤ 0xFDFF then a.toNat - 0x2000 else a.toNat

/-- Does a CPU write at `a` store a plain byte that a CPU read at `a` gives back (20_memory.md R62, R63): open VRAM, the
selected bank of enabled cartridge RAM, WRAM and its echo, open OAM, HRAM, IE. -/
def plainCell (s : State) (a : Word) : Bool :=
  let n := a.toNat
  (decide (0x8000 ≤ n ∧ n ≤ 0x9FFF) && !vramBlocked s.ppu)
    || (decide (0xA000 ≤ n ∧ n ≤ 0xBFFF) && decide (s.cart.cartType = .mbc3) && s.cart.ramEnable
      && decide (s.cart.ramBank.toNat ≤ 3))
    || decide (0xC000 ≤ n ∧ n ≤ 0xFDFF)
    || (decide (0xFE00 ≤ n ∧ n ≤ 0xFE9F) && !oamBlocked s.ppu)
    || decide (0xFF80 ≤ n)

/-- Does a CPU write at `a` change nothing at all: plain-ROM cartridge space, a closed window, cartridge RAM that is
absent, disabled or an RTC register, the prohibited area, LY, an unlisted I/O address (20_memory.md R61, R63, R77, R85,
R91; 48_ppu.md R304). -/
def inertAddress (s : State) (a : Word) : Bool :=
  let n := a.toNat
  (decide (n ≤ 0x7FFF) && decide (s.cart.cartType = .romOnly))
    || (decide (0x8000 ≤ n ∧ n ≤ 0x9FFF) && vramBlocked s.ppu)
    || (decide (0xA000 ≤ n ∧ n ≤ 0xBFFF)
      && (decide (s.cart.cartType = .romOnly) || !s.cart.ramEnable || decide (3 < s.cart.ramBank.toNat)))
    || (decide (0xFE00 ≤ n ∧ n ≤ 0xFE9F) && oamBlocked s.ppu)
    || decide (0xFEA0 ≤ n ∧ n ≤ 0xFEFF)
    || decide (0xFF01 ≤ n ∧ n ≤ 0xFF03) || decide (0xFF08 ≤ n ∧ n ≤ 0xFF0E) || decide (0xFF10 ≤ n ∧ n ≤ 0xFF3F)
    || decide (n = 0xFF44) || decide (0xFF4C ≤ n ∧ n ≤ 0xFF4F) || decide (0xFF51 ≤ n ∧ n ≤ 0xFF7F)

/-- The addresses a call, an RST, a PUSH or a dispatch stores to: SP - 1, then SP - 2. -/
def stackSlots (s : State) : List Word := [s.cpu.sp - 1#16, s.cpu.sp - 2#16]

/-- The addresses an instruction stores to, by the expressions its meaning uses; every other form stores nothing. -/
def storedAddresses (i : Instr) (s : State) : List Word :=
  match i with
  | .inc_mhl => [s.hl]
  | .dec_mhl => [s.hl]
  | .ld_mhl_d8 _ => [s.hl]
  | .ld_mhl_b => [s.hl]
  | .ld_mhl_c => [s.hl]
  | .ld_mhl_d => [s.hl]
  | .ld_mhl_e => [s.hl]
  | .ld_mhl_h => [s.hl]
  | .ld_mhl_l => [s.hl]
  | .ld_mhl_a => [s.hl]
  | .ld_mhli_a => [s.hl]
  | .ld_mhld_a => [s.hl]
  | .ld_mbc_a => [s.bc]
  | .ld_mde_a => [s.de]
  | .ldh_ma8_a a8 => [highPage a8]
  | .ld_mc_a => [highPage s.cpu.c]
  | .ld_ma16_a a16 => [a16]
  | .ld_ma16_sp a16 => [a16, a16 + 1#16]
  | .push_bc => stackSlots s
  | .push_de => stackSlots s
  | .push_hl => stackSlots s
  | .push_af => stackSlots s
  | .call_a16 _ => stackSlots s
  | .call_nz_a16 _ => if s.cond .nz then stackSlots s else []
  | .call_z_a16 _ => if s.cond .z then stackSlots s else []
  | .call_nc_a16 _ => if s.cond .nc then stackSlots s else []
  | .call_c_a16 _ => if s.cond .c then stackSlots s else []
  | .rst_00 => stackSlots s
  | .rst_08 => stackSlots s
  | .rst_10 => stackSlots s
  | .rst_18 => stackSlots s
  | .rst_20 => stackSlots s
  | .rst_28 => stackSlots s
  | .rst_30 => stackSlots s
  | .rst_38 => stackSlots s
  | .rlc_mhl => [s.hl]
  | .rrc_mhl => [s.hl]
  | .rl_mhl => [s.hl]
  | .rr_mhl => [s.hl]
  | .sla_mhl => [s.hl]
  | .sra_mhl => [s.hl]
  | .swap_mhl => [s.hl]
  | .srl_mhl => [s.hl]
  | .res_0_mhl => [s.hl]
  | .res_1_mhl => [s.hl]
  | .res_2_mhl => [s.hl]
  | .res_3_mhl => [s.hl]
  | .res_4_mhl => [s.hl]
  | .res_5_mhl => [s.hl]
  | .res_6_mhl => [s.hl]
  | .res_7_mhl => [s.hl]
  | .set_0_mhl => [s.hl]
  | .set_1_mhl => [s.hl]
  | .set_2_mhl => [s.hl]
  | .set_3_mhl => [s.hl]
  | .set_4_mhl => [s.hl]
  | .set_5_mhl => [s.hl]
  | .set_6_mhl => [s.hl]
  | .set_7_mhl => [s.hl]
  | .prefix_cb cb => if cb.toNat % 8 = 6 ∧ cb.toNat / 64 ≠ 1 then [s.hl] else []
  | _ => []

/-! Classes of instructions. -/

/-- The control transfers of 44_control_stack.md: JP, JR, CALL, RET, RETI, RST in every form. -/
def isTransfer (i : Instr) : Bool :=
  match i with
  | .jp_a16 _ | .jp_nz_a16 _ | .jp_z_a16 _ | .jp_nc_a16 _ | .jp_c_a16 _ | .jp_hl
  | .jr_s8 _ | .jr_nz_s8 _ | .jr_z_s8 _ | .jr_nc_s8 _ | .jr_c_s8 _
  | .call_a16 _ | .call_nz_a16 _ | .call_z_a16 _ | .call_nc_a16 _ | .call_c_a16 _
  | .ret | .reti | .ret_nz | .ret_z | .ret_nc | .ret_c
  | .rst_00 | .rst_08 | .rst_10 | .rst_18 | .rst_20 | .rst_28 | .rst_30 | .rst_38 => true
  | _ => false

/-- The condition of a conditional transfer (44_control_stack.md R244, R247, R249, R251). -/
def conditionOf (i : Instr) : Option Cond :=
  match i with
  | .jp_nz_a16 _ | .jr_nz_s8 _ | .call_nz_a16 _ | .ret_nz => some .nz
  | .jp_z_a16 _ | .jr_z_s8 _ | .call_z_a16 _ | .ret_z => some .z
  | .jp_nc_a16 _ | .jr_nc_s8 _ | .call_nc_a16 _ | .ret_nc => some .nc
  | .jp_c_a16 _ | .jr_c_s8 _ | .call_c_a16 _ | .ret_c => some .c
  | _ => none

/-- A row of 70_reset_and_hazards.md R430: the cost taken and not taken. -/
def branchCosts (i : Instr) : Option (Nat × Nat) :=
  match i with
  | .jp_nz_a16 _ | .jp_z_a16 _ | .jp_nc_a16 _ | .jp_c_a16 _ => some (16, 12)
  | .jr_nz_s8 _ | .jr_z_s8 _ | .jr_nc_s8 _ | .jr_c_s8 _ => some (12, 8)
  | .call_nz_a16 _ | .call_z_a16 _ | .call_nc_a16 _ | .call_c_a16 _ => some (24, 12)
  | .ret_nz | .ret_z | .ret_nc | .ret_c => some (20, 8)
  | _ => none

/-- The rows of 40_alu8.md R157, by the instruction's bytes: does the instruction write a flag? -/
def writesFlags (i : Instr) : Bool :=
  match encode i with
  | [] => false
  | op :: rest =>
    let n := op.toNat
    if n = 0xCB then decide ((rest.headD 0x00#8).toNat < 0x80)
    else if n < 0x40 then
      decide (n % 8 = 4 ∨ n % 8 = 5 ∨ n % 8 = 7 ∨ n % 16 = 9)
    else if n < 0x80 then false
    else if n < 0xC0 then true
    else decide (n % 8 = 6 ∨ n = 0xE8 ∨ n = 0xF8 ∨ n = 0xF1)

/-- The undefined opcodes (45_system.md R266), each with its byte. -/
def undefinedOpcodes : List (Instr × Byte) :=
  [(.illegal_d3, 0xD3#8), (.illegal_db, 0xDB#8), (.illegal_dd, 0xDD#8), (.illegal_e3, 0xE3#8), (.illegal_e4, 0xE4#8),
    (.illegal_eb, 0xEB#8), (.illegal_ec, 0xEC#8), (.illegal_ed, 0xED#8), (.illegal_f4, 0xF4#8), (.illegal_fc, 0xFC#8),
    (.illegal_fd, 0xFD#8)]

/-- Does the step run an instruction, that is, neither idle nor dispatch an interrupt (49_machine_step.md R280)? -/
def executes (s : State) : Bool :=
  decide (s.pend = 0#5) && !s.cpu.halted || decide (s.pend ≠ 0#5) && !s.cpu.ime

/-- The two bits of column `n` of a tile row, 0 to 3 (48_ppu.md R307): `row` is its index in VRAM. -/
def rowColour (p : Ppu) (row n : Nat) : Nat :=
  2 * ((Memory.read p.vram (row + 1)).getLsbD n).toNat + ((Memory.read p.vram row).getLsbD n).toNat

/-- The colour index of the pixel (px, py) of the tile map at index `map` of VRAM, through the tile area that LCDC bit 4
selects (48_ppu.md R307, R327). -/
def tileColour (p : Ppu) (map px py : Nat) : Nat :=
  let t := (Memory.read p.vram (map + 32 * (py / 8) + px / 8)).toNat
  let tile := if p.lcdc.getLsbD 4 then 16 * t else if t < 128 then 0x1000 + 16 * t else 16 * t
  rowColour p (tile + 2 * (py % 8)) (7 - px % 8)

/-- Is the pixel of column `x` a window pixel (48_ppu.md R329)? -/
def windowAt (p : Ppu) (x : Nat) : Prop := p.lcdc.getLsbD 5 = true ∧ p.wy.toNat ≤ p.ly ∧ p.wx.toNat ≤ x + 7

/-- The background's colour index at the scrolled position of column `x` (48_ppu.md R328). -/
def backgroundColour (p : Ppu) (x : Nat) : Nat :=
  tileColour p (if p.lcdc.getLsbD 3 then 0x1C00 else 0x1800) ((x + p.scx.toNat) % 256) ((p.ly + p.scy.toNat) % 256)

/-- The window's colour index at column `x` (48_ppu.md R329). -/
def windowColour (p : Ppu) (x : Nat) : Nat :=
  tileColour p (if p.lcdc.getLsbD 6 then 0x1C00 else 0x1800) (x + 7 - p.wx.toNat) p.windowLine

/-- The colour index of a selected sprite at column `x`, 0 where it does not overlap or is transparent (48_ppu.md R330). -/
def spriteColour (p : Ppu) (x : Nat) (e : Sprite) : Nat :=
  let height := if p.lcdc.getLsbD 2 then 16 else 8
  if e.x.toNat ≤ x + 8 ∧ x < e.x.toNat ∧ p.ly + 16 < e.y.toNat + height then
    let row := p.ly + 16 - e.y.toNat
    let row := if e.attr.getLsbD 6 then height - 1 - row else row
    let tile := if p.lcdc.getLsbD 2 then e.tile.toNat / 2 * 2 + row / 8 else e.tile.toNat
    let col := x + 8 - e.x.toNat
    rowColour p (16 * tile + 2 * (row % 8)) (if e.attr.getLsbD 5 then col else 7 - col)
  else 0

/-- The shade of colour index `i` under a palette (48_ppu.md R305). -/
def paletteShade (palette : Byte) (i : Nat) : Nat := palette.toNat / 4 ^ i % 4

/-- The position of the PPU in a frame, in dots (48_ppu.md R310, R316). -/
def dotOfFrame (s : State) : Nat := s.ppu.ly * 456 + s.ppu.lx

/-- A safe run of `n` steps: every step answers a next state, and the states it passes through keep the invariant. -/
def SafeRun : Nat → State → Prop
  | 0, s => Invariant s
  | n + 1, s => Invariant s ∧ ∃ t, step s = .next t ∧ SafeRun n t

end Sys2Proof.Machine
end

