-- ==== Sys2Proof/Certificates/Slice0/Obligations.lean ====
section
/-! DEFINITION. The statements for the provers. A statement about `exec i s` is about a state `s` whose PC is already past
the instruction (44_control_stack.md, introduction); `StepRunsDecodedInstruction` ties it to a step. A statement of the form
`exec i s = .next t` is the instruction's completion, its result and its frame at once: every field of the state that `t`
does not name is that of `s`.

Opcode bytes and T-cycles are those the cited rules give; the spec marks them general knowledge that its source does not
give (G1, G2 of 93_implementation_defined.md; assumption log 8). Where a statement also rests on a decision that the spec
marks as its own (D<n> of 92_eei_decisions.md; assumption log 22), its docstring names it. -/

open Sys2Proof Sys2Proof.Machine

/-! Encoding (30_encoding.md). -/

/-- The decoder gives back every well-formed instruction from its bytes, whatever follows them: no bit of an encoding is
dropped. All 511 well-formed constructors, every operand. -/
def Obligations.DecodeEncodeRoundTrip : Prop :=
  ∀ (i : Instr) (rest : List Byte), i.wellFormed = true → decode (encode i ++ rest) = .ok (i, rest)

/-- Any three bytes decode (R118: every one of the 256 values of a first byte selects an instruction), to a well-formed
instruction of 1 to 3 bytes whose encoding is exactly the bytes read. -/
def Obligations.EncodeDecodeRoundTrip : Prop :=
  ∀ (op d1 d2 : Byte) (rest : List Byte), ∃ i tail,
    decode (op :: d1 :: d2 :: rest) = .ok (i, tail) ∧ i.wellFormed = true
      ∧ 1 ≤ i.length ∧ i.length ≤ 3 ∧ (encode i).length = i.length ∧ encode i ++ tail = op :: d1 :: d2 :: rest

/-- Words of the spec's encodings, one or more for each family, and what they decode to (40_alu8.md to 45_system.md). -/
def Obligations.DecodeWordsOfTheFamilies : Prop :=
  decode [0x80#8] = .ok (.add_a_b, []) ∧ decode [0xC6#8, 0x27#8] = .ok (.add_a_d8 0x27#8, [])
    ∧ decode [0x34#8] = .ok (.inc_mhl, []) ∧ decode [0x19#8] = .ok (.add_hl_de, [])
    ∧ decode [0xE8#8, 0x80#8] = .ok (.add_sp_s8 0x80#8, []) ∧ decode [0x1F#8] = .ok (.rra, [])
    ∧ decode [0xCB#8, 0x37#8] = .ok (.swap_a, []) ∧ decode [0xCB#8, 0x7E#8] = .ok (.bit_7_mhl, [])
    ∧ decode [0xCB#8, 0x9E#8] = .ok (.res_3_mhl, []) ∧ decode [0xCB#8, 0xD0#8] = .ok (.set_2_b, [])
    ∧ decode [0x41#8] = .ok (.ld_b_c, []) ∧ decode [0x31#8, 0xFE#8, 0xFF#8] = .ok (.ld_sp_d16 0xFFFE#16, [])
    ∧ decode [0x08#8, 0x00#8, 0xC1#8] = .ok (.ld_ma16_sp 0xC100#16, []) ∧ decode [0x3A#8] = .ok (.ld_a_mhld, [])
    ∧ decode [0x20#8, 0x05#8] = .ok (.jr_nz_s8 0x05#8, []) ∧ decode [0xCD#8, 0x34#8, 0x12#8] = .ok (.call_a16 0x1234#16, [])
    ∧ decode [0xEF#8] = .ok (.rst_28, []) ∧ decode [0xF1#8] = .ok (.pop_af, []) ∧ decode [0xD9#8] = .ok (.reti, [])
    ∧ decode [0x76#8] = .ok (.halt, []) ∧ decode [0x10#8, 0x00#8] = .ok (.stop 0x00#8, [])
    ∧ decode [0xD3#8, 0x00#8] = .ok (.illegal_d3, [0x00#8])

/-! 8-bit arithmetic and logic (40_alu8.md). -/

/-- The operand forms of the eight two-operand instructions (R142): value, bytes and T-cycles. -/
def Obligations.AluOperandForms : Prop :=
  ∀ (s : State) (op : AluOp) (r : Reg8) (d8 : Byte),
    operand8 (.loc (.reg r)) s = s.reg r ∧ operand8 (.loc .mhl) s = memRead s s.hl ∧ operand8 (.imm d8) s = d8
      ∧ encode (Instr.alu op (.loc (.reg r))) = [BitVec.ofNat 8 (0x80 + 8 * aluCode op + regCode r)]
      ∧ encode (Instr.alu op (.loc .mhl)) = [BitVec.ofNat 8 (0x86 + 8 * aluCode op)]
      ∧ encode (Instr.alu op (.imm d8)) = [BitVec.ofNat 8 (0xC6 + 8 * aluCode op), d8]
      ∧ operand8Cycles (.loc (.reg r)) = 4 ∧ operand8Cycles (.loc .mhl) = 8 ∧ operand8Cycles (.imm d8) = 8

/-- ADD, ADC, SUB and SBC with every operand (R140, R141, R145 to R148): result, flags, T-cycles, bytes, and nothing else
changes. The 36 constructors add_a_*, adc_a_*, sub_*, sbc_a_*. -/
def Obligations.AddAdcSubSbcResult : Prop :=
  ∀ (s : State) (x : Operand8),
    let a := s.cpu.a.toNat
    let v := (operand8 x s).toNat
    let c := (carryIn s).toNat
    exec (Instr.alu .add x) s = .next (s.withAF (BitVec.ofNat 8 (a + v))
        (flagsOf (decide ((a + v) % 256 = 0)) false (decide (a % 16 + v % 16 > 15)) (decide (a + v > 255)))
        (operand8Cycles x))
      ∧ exec (Instr.alu .adc x) s = .next (s.withAF (BitVec.ofNat 8 (a + v + c))
        (flagsOf (decide ((a + v + c) % 256 = 0)) false (decide (a % 16 + v % 16 + c > 15)) (decide (a + v + c > 255)))
        (operand8Cycles x))
      ∧ exec (Instr.alu .sub x) s = .next (s.withAF (BitVec.ofNat 8 (a + 256 - v))
        (flagsOf (decide ((a + 256 - v) % 256 = 0)) true (decide (a % 16 < v % 16)) (decide (a < v)))
        (operand8Cycles x))
      ∧ exec (Instr.alu .sbc x) s = .next (s.withAF (BitVec.ofNat 8 (a + 256 - v - c))
        (flagsOf (decide ((a + 256 - v - c) % 256 = 0)) true (decide (a % 16 < v % 16 + c)) (decide (a < v + c)))
        (operand8Cycles x))
      ∧ encode (Instr.alu .add x) = aluBytes .add x ∧ encode (Instr.alu .adc x) = aluBytes .adc x
      ∧ encode (Instr.alu .sub x) = aluBytes .sub x ∧ encode (Instr.alu .sbc x) = aluBytes .sbc x

/-- AND, XOR and OR with every operand (R149 to R151). The 27 constructors and_*, xor_*, or_*. -/
def Obligations.AndXorOrResult : Prop :=
  ∀ (s : State) (x : Operand8),
    let a := s.cpu.a.toNat
    let v := (operand8 x s).toNat
    exec (Instr.alu .and x) s = .next (s.withAF (BitVec.ofNat 8 (a &&& v)) (flagsOf (decide (a &&& v = 0)) false true false)
        (operand8Cycles x))
      ∧ exec (Instr.alu .xor x) s = .next (s.withAF (BitVec.ofNat 8 (a ^^^ v)) (flagsOf (decide (a = v)) false false false)
        (operand8Cycles x))
      ∧ exec (Instr.alu .or x) s = .next (s.withAF (BitVec.ofNat 8 (a ||| v))
        (flagsOf (decide (a = 0 ∧ v = 0)) false false false) (operand8Cycles x))
      ∧ encode (Instr.alu .and x) = aluBytes .and x ∧ encode (Instr.alu .xor x) = aluBytes .xor x
      ∧ encode (Instr.alu .or x) = aluBytes .or x

/-- CP with every operand (R152): the flags of SUB, A unchanged. The 9 constructors cp_*. -/
def Obligations.CpLeavesAccumulator : Prop :=
  ∀ (s : State) (x : Operand8),
    let a := s.cpu.a.toNat
    let v := (operand8 x s).toNat
    exec (Instr.alu .cp x) s = .next (s.withF
        (flagsOf (decide (a = v)) true (decide (a % 16 < v % 16)) (decide (a < v))) (operand8Cycles x))
      ∧ encode (Instr.alu .cp x) = aluBytes .cp x

/-- INC and DEC of a register and of the byte at HL (R143, R144). The 16 constructors inc_* and dec_* of 8-bit
locations; `set8 .mhl` is one bus write at HL. -/
def Obligations.IncDecResult : Prop :=
  ∀ (s : State) (x : Loc8),
    let v := (get8 x s).toNat
    let n := if x = .mhl then 12 else 4
    exec (Instr.incLoc x) s = .next ((set8 x (BitVec.ofNat 8 (v + 1)) s).withF
        (flagsOf (decide (v = 255)) false (decide ((v + 1) % 16 = 0)) (carryIn s)) n)
      ∧ exec (Instr.decLoc x) s = .next ((set8 x (BitVec.ofNat 8 (v + 255)) s).withF
        (flagsOf (decide (v = 1)) true (decide (v % 16 = 0)) (carryIn s)) n)
      ∧ encode (Instr.incLoc x) = [BitVec.ofNat 8 (0x04 + 8 * locCode x)]
      ∧ encode (Instr.decLoc x) = [BitVec.ofNat 8 (0x05 + 8 * locCode x)]

/-- DAA (R153): the constructor daa. -/
def Obligations.DaaResult : Prop :=
  ∀ s : State,
    let a := s.cpu.a.toNat
    let high := carryIn s || (!subIn s && decide (a > 0x99))
    let low := halfIn s || (!subIn s && decide (a % 16 > 9))
    let adjust := (if high then 0x60 else 0) + (if low then 0x06 else 0)
    let r := (if subIn s then a + 256 - adjust else a + adjust) % 256
    exec .daa s = .next (s.withAF (BitVec.ofNat 8 r) (flagsOf (decide (r = 0)) (subIn s) false high) 4)
      ∧ encode .daa = [0x27#8]

/-- What DAA is for (R153, "post-adjust A after BCD arithmetic"): after ADD or SUB of two-digit decimal operands, A holds
the decimal sum or difference modulo 100 and Cy the decimal carry or borrow. -/
def Obligations.DaaAdjustsDecimalArithmetic : Prop :=
  ∀ (s : State) (x : Operand8) (p q : Nat), p < 100 → q < 100 → s.cpu.a = bcdByte p → operand8 x s = bcdByte q →
    (∃ t u, exec (Instr.alu .add x) s = .next t ∧ exec .daa t = .next u
        ∧ u.cpu.a = bcdByte ((p + q) % 100) ∧ carryIn u = decide (100 ≤ p + q))
      ∧ (∃ t u, exec (Instr.alu .sub x) s = .next t ∧ exec .daa t = .next u
        ∧ u.cpu.a = bcdByte ((p + 100 - q) % 100) ∧ carryIn u = decide (p < q))

/-- CPL, SCF and CCF (R154 to R156). -/
def Obligations.CplScfCcfResult : Prop :=
  ∀ s : State,
    exec .cpl s = .next (s.withAF (BitVec.ofNat 8 (255 - s.cpu.a.toNat)) (flagsOf (zeroIn s) true true (carryIn s)) 4)
      ∧ exec .scf s = .next (s.withF (flagsOf (zeroIn s) false false true) 4)
      ∧ exec .ccf s = .next (s.withF (flagsOf (zeroIn s) false false (!carryIn s)) 4)
      ∧ encode .cpl = [0x2F#8] ∧ encode .scf = [0x37#8] ∧ encode .ccf = [0x3F#8]

/-! The register file (10_state.md R20 to R24) and 16-bit arithmetic (41_alu16.md). -/

/-- The register file (R8, R20 to R22, R113, R114): each name reads and writes the CPU field of that name, and writing a
register changes that register only; the pairs are views of the registers, high byte first, AF with F's low nibble zero;
writing a pair changes those registers only; the eighth location is the byte at HL on the bus. -/
def Obligations.RegisterFile : Prop :=
  ∀ (s : State) (r : Reg8) (b : Byte) (v : Word),
    (∀ r', (s.setReg r b).reg r' = if r' = r then b else s.reg r')
      ∧ (s.setReg r b).cpu.f = s.cpu.f ∧ (s.setReg r b).cpu.sp = s.cpu.sp ∧ (s.setReg r b).cpu.pc = s.cpu.pc
      ∧ (s.setReg r b).cpu.ime = s.cpu.ime ∧ (s.setReg r b).cpu.imePending = s.cpu.imePending
      ∧ (s.setReg r b).cpu.halted = s.cpu.halted ∧ (s.setReg r b).cpu.illegalSeen = s.cpu.illegalSeen
      ∧ (s.setReg r b).cpu.illegalOp = s.cpu.illegalOp ∧ (s.setReg r b).cpu.haltBugLatch = s.cpu.haltBugLatch
      ∧ sameOutsideCpu s (s.setReg r b) ∧ (s.setReg r b).cycles = s.cycles
      ∧ s.bc.toNat = s.cpu.b.toNat * 256 + s.cpu.c.toNat ∧ s.de.toNat = s.cpu.d.toNat * 256 + s.cpu.e.toNat
      ∧ s.hl.toNat = s.cpu.h.toNat * 256 + s.cpu.l.toNat ∧ s.pair .sp = s.cpu.sp
      ∧ (s.pair2 .af).toNat = s.cpu.a.toNat * 256 + s.cpu.f.toNat / 16 * 16
      ∧ s.setPair .bc v = { s with cpu := { s.cpu with b := BitVec.ofNat 8 (v.toNat / 256), c := BitVec.ofNat 8 (v.toNat % 256) } }
      ∧ s.setPair .de v = { s with cpu := { s.cpu with d := BitVec.ofNat 8 (v.toNat / 256), e := BitVec.ofNat 8 (v.toNat % 256) } }
      ∧ s.setPair .hl v = { s with cpu := { s.cpu with h := BitVec.ofNat 8 (v.toNat / 256), l := BitVec.ofNat 8 (v.toNat % 256) } }
      ∧ s.setPair .sp v = { s with cpu := { s.cpu with sp := v } }
      ∧ s.setPair2 .af v = { s with cpu := { s.cpu with
          a := BitVec.ofNat 8 (v.toNat / 256), f := BitVec.ofNat 8 (v.toNat % 256 / 16 * 16) } }
      ∧ s.reg .b = s.cpu.b ∧ s.reg .c = s.cpu.c ∧ s.reg .d = s.cpu.d ∧ s.reg .e = s.cpu.e ∧ s.reg .h = s.cpu.h
      ∧ s.reg .l = s.cpu.l ∧ s.reg .a = s.cpu.a
      ∧ s.setReg .b b = { s with cpu := { s.cpu with b := b } } ∧ s.setReg .c b = { s with cpu := { s.cpu with c := b } }
      ∧ s.setReg .d b = { s with cpu := { s.cpu with d := b } } ∧ s.setReg .e b = { s with cpu := { s.cpu with e := b } }
      ∧ s.setReg .h b = { s with cpu := { s.cpu with h := b } } ∧ s.setReg .l b = { s with cpu := { s.cpu with l := b } }
      ∧ s.setReg .a b = { s with cpu := { s.cpu with a := b } }
      ∧ s.pair .bc = s.bc ∧ s.pair .de = s.de ∧ s.pair .hl = s.hl
      ∧ s.pair2 .bc = s.bc ∧ s.pair2 .de = s.de ∧ s.pair2 .hl = s.hl
      ∧ s.setPair2 .bc v = s.setPair .bc v ∧ s.setPair2 .de v = s.setPair .de v ∧ s.setPair2 .hl v = s.setPair .hl v
      ∧ get8 (.reg r) s = s.reg r ∧ get8 .mhl s = memRead s s.hl
      ∧ set8 (.reg r) b s = s.setReg r b ∧ set8 .mhl b s = memWrite s s.hl b

/-- ADD HL,rr, INC rr and DEC rr (R170 to R172): Z is kept by the first, no flag is written by the others. The 4
constructors add_hl_*, and the 8 constructors inc_* and dec_* of pairs. -/
def Obligations.PairArithmeticResult : Prop :=
  ∀ (s : State) (p : Rp),
    let a := s.hl.toNat
    let v := (s.pair p).toNat
    exec (Instr.addHl p) s = .next ((s.setPair .hl (BitVec.ofNat 16 (a + v))).withF
        (flagsOf (zeroIn s) false (decide (a % 4096 + v % 4096 > 4095)) (decide (a + v > 65535))) 8)
      ∧ exec (Instr.incPair p) s = .next { s.setPair p (BitVec.ofNat 16 (v + 1)) with cycles := 8 }
      ∧ exec (Instr.decPair p) s = .next { s.setPair p (BitVec.ofNat 16 (v + 65535)) with cycles := 8 }
      ∧ encode (Instr.addHl p) = [BitVec.ofNat 8 (0x09 + 16 * rpCode p)]
      ∧ encode (Instr.incPair p) = [BitVec.ofNat 8 (0x03 + 16 * rpCode p)]
      ∧ encode (Instr.decPair p) = [BitVec.ofNat 8 (0x0B + 16 * rpCode p)]

/-- ADD SP,s8 and LD HL,SP+s8 (R173, R174): the signed sum, the flags of the unsigned low-byte addition. -/
def Obligations.SpOffsetResult : Prop :=
  ∀ (s : State) (e : Byte),
    let r := BitVec.ofInt 16 (s.cpu.sp.toNat + signedByte e)
    let f := flagsOf false false (decide (s.cpu.sp.toNat % 16 + e.toNat % 16 > 15)) (decide (s.cpu.sp.toNat % 256 + e.toNat > 255))
    exec (.add_sp_s8 e) s = .next ((s.setPair .sp r).withF f 16)
      ∧ exec (.ld_hl_sp_s8 e) s = .next ((s.setPair .hl r).withF f 12)
      ∧ encode (.add_sp_s8 e) = [0xE8#8, e] ∧ encode (.ld_hl_sp_s8 e) = [0xF8#8, e]

/-! Rotates, shifts, bits (42_rotate_shift_bit.md). -/

/-- RLCA, RRCA, RLA, RRA (R180 to R183): Z is always 0. -/
def Obligations.AccumulatorRotateResult : Prop :=
  ∀ s : State,
    let a := s.cpu.a.toNat
    let c := (carryIn s).toNat
    exec .rlca s = .next (s.withAF (BitVec.ofNat 8 (rotated .rlc a c)) (flagsOf false false false (shiftedOut .rlc a)) 4)
      ∧ exec .rrca s = .next (s.withAF (BitVec.ofNat 8 (rotated .rrc a c)) (flagsOf false false false (shiftedOut .rrc a)) 4)
      ∧ exec .rla s = .next (s.withAF (BitVec.ofNat 8 (rotated .rl a c)) (flagsOf false false false (shiftedOut .rl a)) 4)
      ∧ exec .rra s = .next (s.withAF (BitVec.ofNat 8 (rotated .rr a c)) (flagsOf false false false (shiftedOut .rr a)) 4)
      ∧ encode .rlca = [0x07#8] ∧ encode .rrca = [0x0F#8] ∧ encode .rla = [0x17#8] ∧ encode .rra = [0x1F#8]

/-- The CB rotates, shifts and SWAP on every location (R184 to R192; SWAP's cleared carry is the spec's
decision D35). The 64 constructors rlc_*, rrc_*, rl_*, rr_*, sla_*,
sra_*, swap_*, srl_*. -/
def Obligations.RotateShiftResult : Prop :=
  ∀ (s : State) (op : RotOp) (x : Loc8),
    let v := (get8 x s).toNat
    let w := rotated op v (carryIn s).toNat
    exec (Instr.rot op x) s = .next ((set8 x (BitVec.ofNat 8 w) s).withF
        (flagsOf (decide (w = 0)) false false (shiftedOut op v)) (if x = .mhl then 16 else 8))
      ∧ encode (Instr.rot op x) = [0xCB#8, BitVec.ofNat 8 (8 * rotCode op + locCode x)]

/-- BIT, RES and SET of every bit of every location (R193 to R195). The 192 constructors bit_*, res_*, set_*. -/
def Obligations.BitResSetResult : Prop :=
  ∀ (s : State) (n : Index8) (x : Loc8),
    let v := (get8 x s).toNat
    let b := v / 2 ^ n.toNat % 2
    exec (Instr.bit n x) s = .next (s.withF (flagsOf (decide (b = 0)) false true (carryIn s)) (if x = .mhl then 12 else 8))
      ∧ exec (Instr.res n x) s = .next
          { set8 x (BitVec.ofNat 8 (v - b * 2 ^ n.toNat)) s with cycles := if x = .mhl then 16 else 8 }
      ∧ exec (Instr.set n x) s = .next
          { set8 x (BitVec.ofNat 8 (v + (1 - b) * 2 ^ n.toNat)) s with cycles := if x = .mhl then 16 else 8 }
      ∧ encode (Instr.bit n x) = [0xCB#8, BitVec.ofNat 8 (0x40 + 8 * n.toNat + locCode x)]
      ∧ encode (Instr.res n x) = [0xCB#8, BitVec.ofNat 8 (0x80 + 8 * n.toNat + locCode x)]
      ∧ encode (Instr.set n x) = [0xCB#8, BitVec.ofNat 8 (0xC0 + 8 * n.toNat + locCode x)]

/-! Loads and stores (43_load.md). -/

/-- LD r,r'; LD r,d8; LD r,(HL) (R200 to R202): no flag, no other register. The 49 constructors ld_r_r', 7 ld_r_d8,
7 ld_r_mhl. -/
def Obligations.LoadRegisterResult : Prop :=
  ∀ (s : State) (r r' : Reg8) (d8 : Byte),
    exec (Instr.ldRegReg r r') s = .next { s.setReg r (s.reg r') with cycles := 4 }
      ∧ exec (Instr.ldRegD8 r d8) s = .next { s.setReg r d8 with cycles := 8 }
      ∧ exec (Instr.ldRegMhl r) s = .next { s.setReg r (memRead s s.hl) with cycles := 8 }
      ∧ encode (Instr.ldRegReg r r') = [BitVec.ofNat 8 (0x40 + 8 * regCode r + regCode r')]
      ∧ encode (Instr.ldRegD8 r d8) = [BitVec.ofNat 8 (0x06 + 8 * regCode r), d8]
      ∧ encode (Instr.ldRegMhl r) = [BitVec.ofNat 8 (0x46 + 8 * regCode r)]

/-- The byte stores (R203, R204, R207, R208, R213, R215, R217): one bus write of the byte at the address, and nothing
else; `highPage`, by which `storedAddresses` says two of the addresses, is 0xFF00 plus the byte. The constructors ld_mhl_*, ld_mbc_a, ld_mde_a, ldh_ma8_a, ld_mc_a, ld_ma16_a. -/
def Obligations.StoreByteResult : Prop :=
  ∀ (s : State) (r : Reg8) (d8 a8 : Byte) (a16 : Word),
    exec (Instr.ldMhlReg r) s = .next { memWrite s s.hl (s.reg r) with cycles := 8 }
      ∧ exec (.ld_mhl_d8 d8) s = .next { memWrite s s.hl d8 with cycles := 12 }
      ∧ exec .ld_mbc_a s = .next { memWrite s s.bc s.cpu.a with cycles := 8 }
      ∧ exec .ld_mde_a s = .next { memWrite s s.de s.cpu.a with cycles := 8 }
      ∧ exec (.ldh_ma8_a a8) s = .next { memWrite s (BitVec.ofNat 16 (0xFF00 + a8.toNat)) s.cpu.a with cycles := 12 }
      ∧ exec .ld_mc_a s = .next { memWrite s (BitVec.ofNat 16 (0xFF00 + s.cpu.c.toNat)) s.cpu.a with cycles := 8 }
      ∧ exec (.ld_ma16_a a16) s = .next { memWrite s a16 s.cpu.a with cycles := 16 }
      ∧ encode (Instr.ldMhlReg r) = [BitVec.ofNat 8 (0x70 + regCode r)] ∧ encode (.ld_mhl_d8 d8) = [0x36#8, d8]
      ∧ encode .ld_mbc_a = [0x02#8] ∧ encode .ld_mde_a = [0x12#8] ∧ encode (.ldh_ma8_a a8) = [0xE0#8, a8]
      ∧ encode .ld_mc_a = [0xE2#8]
      ∧ encode (.ld_ma16_a a16) = [0xEA#8, BitVec.ofNat 8 (a16.toNat % 256), BitVec.ofNat 8 (a16.toNat / 256)]
      ∧ highPage a8 = BitVec.ofNat 16 (0xFF00 + a8.toNat)

/-- The loads of A through an address (R205, R206, R214, R216, R218). -/
def Obligations.LoadAccumulatorResult : Prop :=
  ∀ (s : State) (a8 : Byte) (a16 : Word),
    exec .ld_a_mbc s = .next { s.setReg .a (memRead s s.bc) with cycles := 8 }
      ∧ exec .ld_a_mde s = .next { s.setReg .a (memRead s s.de) with cycles := 8 }
      ∧ exec (.ldh_a_ma8 a8) s = .next { s.setReg .a (memRead s (BitVec.ofNat 16 (0xFF00 + a8.toNat))) with cycles := 12 }
      ∧ exec .ld_a_mc s = .next { s.setReg .a (memRead s (BitVec.ofNat 16 (0xFF00 + s.cpu.c.toNat))) with cycles := 8 }
      ∧ exec (.ld_a_ma16 a16) s = .next { s.setReg .a (memRead s a16) with cycles := 16 }
      ∧ encode .ld_a_mbc = [0x0A#8] ∧ encode .ld_a_mde = [0x1A#8] ∧ encode (.ldh_a_ma8 a8) = [0xF0#8, a8]
      ∧ encode .ld_a_mc = [0xF2#8]
      ∧ encode (.ld_a_ma16 a16) = [0xFA#8, BitVec.ofNat 8 (a16.toNat % 256), BitVec.ofNat 8 (a16.toNat / 256)]

/-- LD A,(HL+), LD A,(HL-), LD (HL+),A, LD (HL-),A (R209 to R212): the access at the old HL, then HL steps by one,
modulo 2^16 by the spec's decision D9 (assumption log 22). -/
def Obligations.HlStepResult : Prop :=
  ∀ s : State,
    let up := BitVec.ofNat 16 (s.hl.toNat + 1)
    let down := BitVec.ofNat 16 (s.hl.toNat + 65535)
    exec .ld_a_mhli s = .next { (s.setReg .a (memRead s s.hl)).setPair .hl up with cycles := 8 }
      ∧ exec .ld_a_mhld s = .next { (s.setReg .a (memRead s s.hl)).setPair .hl down with cycles := 8 }
      ∧ exec .ld_mhli_a s = .next { (memWrite s s.hl s.cpu.a).setPair .hl up with cycles := 8 }
      ∧ exec .ld_mhld_a s = .next { (memWrite s s.hl s.cpu.a).setPair .hl down with cycles := 8 }
      ∧ encode .ld_a_mhli = [0x2A#8] ∧ encode .ld_a_mhld = [0x3A#8] ∧ encode .ld_mhli_a = [0x22#8]
      ∧ encode .ld_mhld_a = [0x32#8]

/-- LD rr,d16, LD (a16),SP and LD SP,HL (R219 to R221): the low byte first, at the lower address (for
LD (a16),SP the spec's decision D10; that its a16 + 1 wraps modulo 2^16 is the spec's decision D9). -/
def Obligations.Load16Result : Prop :=
  ∀ (s : State) (p : Rp) (d16 a16 : Word),
    exec (Instr.ldPairD16 p d16) s = .next { s.setPair p d16 with cycles := 12 }
      ∧ exec (.ld_ma16_sp a16) s = .next
          { memWrite (memWrite s a16 (BitVec.ofNat 8 (s.cpu.sp.toNat % 256))) (BitVec.ofNat 16 (a16.toNat + 1))
              (BitVec.ofNat 8 (s.cpu.sp.toNat / 256)) with cycles := 20 }
      ∧ exec .ld_sp_hl s = .next { s.setPair .sp s.hl with cycles := 8 }
      ∧ encode (Instr.ldPairD16 p d16)
          = [BitVec.ofNat 8 (0x01 + 16 * rpCode p), BitVec.ofNat 8 (d16.toNat % 256), BitVec.ofNat 8 (d16.toNat / 256)]
      ∧ encode (.ld_ma16_sp a16) = [0x08#8, BitVec.ofNat 8 (a16.toNat % 256), BitVec.ofNat 8 (a16.toNat / 256)]
      ∧ encode .ld_sp_hl = [0xF9#8]

/-! Control flow and the stack (44_control_stack.md). -/

/-- JP a16, JP cc, JP HL, JR s8, JR cc (R242 to R247): the target when taken, PC as it stands when not, the two costs;
`cond(cc)` (R242) is the flag or its complement. -/
def Obligations.JumpResult : Prop :=
  ∀ (s : State) (cc : Cond) (a : Word) (e : Byte),
    let target := BitVec.ofInt 16 (s.cpu.pc.toNat + signedByte e)
    exec (.jp_a16 a) s = .next (s.jumped a 16)
      ∧ exec (Instr.jpCond cc a) s = .next (if condHolds cc s then s.jumped a 16 else s.jumped s.cpu.pc 12)
      ∧ exec .jp_hl s = .next (s.jumped s.hl 4)
      ∧ exec (.jr_s8 e) s = .next (s.jumped target 12)
      ∧ exec (Instr.jrCond cc e) s = .next (if condHolds cc s then s.jumped target 12 else s.jumped s.cpu.pc 8)
      ∧ encode (.jp_a16 a) = [0xC3#8, BitVec.ofNat 8 (a.toNat % 256), BitVec.ofNat 8 (a.toNat / 256)]
      ∧ encode (Instr.jpCond cc a)
          = [BitVec.ofNat 8 (0xC2 + 8 * condCode cc), BitVec.ofNat 8 (a.toNat % 256), BitVec.ofNat 8 (a.toNat / 256)]
      ∧ encode .jp_hl = [0xE9#8] ∧ encode (.jr_s8 e) = [0x18#8, e]
      ∧ encode (Instr.jrCond cc e) = [BitVec.ofNat 8 (0x20 + 8 * condCode cc), e]
      ∧ s.cond cc = condHolds cc s

/-- CALL a16, CALL cc, RST n (R240, R248, R249, R253): the return address pushed, high byte at SP - 1 first, low byte at
SP - 2; nothing pushed when not taken. -/
def Obligations.CallRstResult : Prop :=
  ∀ (s : State) (cc : Cond) (a : Word) (y : Index8),
    exec (.call_a16 a) s = .next (s.called s.cpu.pc a 24)
      ∧ exec (Instr.callCond cc a) s = .next (if condHolds cc s then s.called s.cpu.pc a 24 else s.jumped s.cpu.pc 12)
      ∧ exec (Instr.rst y) s = .next (s.called s.cpu.pc (BitVec.ofNat 16 (8 * y.toNat)) 16)
      ∧ encode (.call_a16 a) = [0xCD#8, BitVec.ofNat 8 (a.toNat % 256), BitVec.ofNat 8 (a.toNat / 256)]
      ∧ encode (Instr.callCond cc a)
          = [BitVec.ofNat 8 (0xC4 + 8 * condCode cc), BitVec.ofNat 8 (a.toNat % 256), BitVec.ofNat 8 (a.toNat / 256)]
      ∧ encode (Instr.rst y) = [BitVec.ofNat 8 (0xC7 + 8 * y.toNat)]

/-- RET, RET cc, RETI (R241, R250 to R252): PC from the stack, SP up by two; RETI sets IME at once and leaves the EI
latch (that the latch is separate and RETI leaves it is the spec's decision D2, assumption log 22). -/
def Obligations.ReturnResult : Prop :=
  ∀ (s : State) (cc : Cond),
    exec .ret s = .next (s.returned 16)
      ∧ exec (Instr.retCond cc) s = .next (if condHolds cc s then s.returned 20 else s.jumped s.cpu.pc 8)
      ∧ exec .reti s = .next (s.withCpu { s.cpu with sp := s.cpu.sp + 2#16, pc := stackTop s, ime := true } 16)
      ∧ encode .ret = [0xC9#8] ∧ encode (Instr.retCond cc) = [BitVec.ofNat 8 (0xC0 + 8 * condCode cc)]
      ∧ encode .reti = [0xD9#8]

/-- PUSH rr and POP rr (R254, R255); `pair2 .af` and `setPair2 .af` mask F's low nibble
(`RegisterFile`). -/
def Obligations.PushPopResult : Prop :=
  ∀ (s : State) (p : Rp2),
    exec (Instr.push p) s = .next (s.called (s.pair2 p) s.cpu.pc 16)
      ∧ exec (Instr.pop p) s = .next { (s.setPair .sp (s.cpu.sp + 2#16)).setPair2 p (stackTop s) with cycles := 12 }
      ∧ encode (Instr.push p) = [BitVec.ofNat 8 (0xC5 + 16 * rp2Code p)]
      ∧ encode (Instr.pop p) = [BitVec.ofNat 8 (0xC1 + 16 * rp2Code p)]

/-- The stack laws (49_machine_step.md R293 "PUSH then POP on any register pair is an identity modulo F's low-nibble
mask"; 44_control_stack.md R250 "CALL addr ; RET returns to the instruction after CALL with SP restored"), where both
bytes land in plain memory. -/
def Obligations.StackDiscipline : Prop :=
  ∀ (s : State) (p : Rp2) (a : Word), s.memoryWf = true → (∀ b ∈ stackSlots s, plainCell s b = true) →
    (∃ t u, exec (Instr.push p) s = .next t ∧ exec (Instr.pop p) t = .next u
        ∧ u.pair2 p = s.pair2 p ∧ u.cpu.sp = s.cpu.sp ∧ u.cpu.pc = s.cpu.pc)
      ∧ (∃ t u, exec (.call_a16 a) s = .next t ∧ t.cpu.pc = a ∧ exec .ret t = .next u
        ∧ u.cpu.pc = s.cpu.pc ∧ u.cpu.sp = s.cpu.sp)

/-! System instructions (45_system.md). -/

/-- NOP, STOP, DI, EI (R260, R262 to R264): STOP's pad byte has no effect; EI sets the latch only; DI clears both.
STOP's is the spec's decision D8, the latch D2. -/
def Obligations.NopStopDiEiResult : Prop :=
  ∀ (s : State) (pad : Byte),
    exec .nop s = .next { s with cycles := 4 } ∧ exec (.stop pad) s = .next { s with cycles := 4 }
      ∧ exec .di s = .next (s.withCpu { s.cpu with ime := false, imePending := false } 4)
      ∧ exec .ei s = .next (s.withCpu { s.cpu with imePending := true } 4)
      ∧ encode .nop = [0x00#8] ∧ encode (.stop pad) = [0x10#8, pad] ∧ encode .di = [0xF3#8] ∧ encode .ei = [0xFB#8]

/-- HALT (R261): it halts, but for IME = 0 with a request pending when HALT_BUG is true (the
spec's decision D3). For EI; HALT with HALT_BUG true this is the model's choice (assumption log 23). The constructor
halt. -/
def Obligations.HaltResult : Prop :=
  ∀ s : State,
    exec .halt s = .next (s.withCpu
        (if s.haltBug = true ∧ s.cpu.ime = false ∧ s.intr.ie.toNat % 32 &&& s.intr.flags.toNat ≠ 0
          then { s.cpu with halted := false, haltBugLatch := true } else { s.cpu with halted := true }) 4)
      ∧ encode .halt = [0x76#8]

/-- The eleven undefined opcodes (R266): the sticky pair is set, and nothing else happens in 4 T-cycles (the sticky
pair is the spec's decision D7). The 11 constructors illegal_*. -/
def Obligations.UndefinedOpcodesContinue : Prop :=
  ∀ (s : State) (i : Instr) (op : Byte), (i, op) ∈ undefinedOpcodes →
    exec i s = .next (s.withCpu { s.cpu with illegalSeen := true, illegalOp := op } 4) ∧ encode i = [op]

/-- The prefix row (R265): 0xCB has no effect of its own; with its sub-opcode it answers the next state of the CB
instruction that the sub-opcode selects, which is what its bytes decode to. The constructor prefix_cb. -/
def Obligations.PrefixRunsCbInstruction : Prop :=
  ∀ (s : State) (cb : Byte), ∃ i t,
    decode (encode (.prefix_cb cb)) = .ok (i, []) ∧ encode i = [0xCB#8, cb]
      ∧ exec i s = .next t ∧ exec (.prefix_cb cb) s = .next t

/-! Laws over all instructions. -/

/-- No instruction and no step faults, refuses or is stuck (20_memory.md R65 "No access fails"; 60_exceptions.md R358):
every one of the 512 constructors, every state. -/
def Obligations.EveryInstructionAndStepCompletes : Prop :=
  (∀ (i : Instr) (s : State), ∃ t, exec i s = .next t) ∧ ∀ s : State, ∃ t, step s = .next t

/-- The two laws of R293 about PC and cost: without a control transfer, or with one whose condition fails, PC moves by the
instruction's length, one less on the HALT-bug fetch (R291, the spec's decision D3); a conditional branch costs its taken
value exactly when its condition held. -/
def Obligations.PcAndBranchCostLaws : Prop :=
  ∀ s : State, executes s = true →
    (∀ t, cpuStep s = .next t →
        (isTransfer (fetchInstr s) = false ∨ ∃ cc, conditionOf (fetchInstr s) = some cc ∧ condHolds cc s = false) →
        t.cpu.pc = s.cpu.pc + BitVec.ofNat 16
          ((fetchInstr s).length - if s.haltBug = true ∧ s.cpu.haltBugLatch = true then 1 else 0))
      ∧ ∀ t cc costs, cpuStep s = .next t → conditionOf (fetchInstr s) = some cc →
        branchCosts (fetchInstr s) = some costs → t.cycles = if condHolds cc s then costs.1 else costs.2

/-- The T-cycle count of every CPU step is a multiple of 4 between 4 and 24 (R286). -/
def Obligations.CyclesAreMultiplesOfFour : Prop :=
  ∀ s t : State, cpuStep s = .next t → t.cycles % 4 = 0 ∧ 4 ≤ t.cycles ∧ t.cycles ≤ 24

/-- The instructions not listed in R157 write no flag, and every instruction leaves F's low nibble zero (R21, R157). -/
def Obligations.FlagsOnlyWhereListed : Prop :=
  ∀ (i : Instr) (s t : State), exec i s = .next t →
    (writesFlags i = false → t.cpu.f = s.cpu.f) ∧ (s.cpu.f.toNat % 16 = 0 → t.cpu.f.toNat % 16 = 0)

/-- EVERY BYTE of memory outside the bytes an instruction stores reads as before: for every instruction, where the
addresses it stores to (`storedAddresses`, computed as the meanings compute them) are plain cells; and a form that stores
nothing changes nothing outside the CPU at all. -/
def Obligations.InstructionMemoryFrame : Prop :=
  ∀ (i : Instr) (s t : State), exec i s = .next t →
    ((∀ a ∈ storedAddresses i s, plainCell s a = true) →
        ∀ b, (∀ a ∈ storedAddresses i s, cellOf b ≠ cellOf a) → memRead t b = memRead s b)
      ∧ (storedAddresses i s = [] → sameOutsideCpu s t)

/-- The CPU's control state (R25 to R30): IME, the EI latch, `halted` and the HALT-bug latch change only in DI, EI, RETI
and HALT; the undefined-opcode pair only in the undefined opcodes. The two booleans for the CPU mode are the spec's decision
D1, the EI latch, which RETI leaves, D2, the pair D7 (log 10). -/
def Obligations.ControlStateFrame : Prop :=
  ∀ (i : Instr) (s t : State), exec i s = .next t →
    (i ≠ .di → i ≠ .reti → t.cpu.ime = s.cpu.ime) ∧ (i ≠ .di → i ≠ .ei → t.cpu.imePending = s.cpu.imePending)
      ∧ (i ≠ .halt → t.cpu.halted = s.cpu.halted ∧ t.cpu.haltBugLatch = s.cpu.haltBugLatch)
      ∧ ((∀ op, (i, op) ∉ undefinedOpcodes) → t.cpu.illegalSeen = s.cpu.illegalSeen ∧ t.cpu.illegalOp = s.cpu.illegalOp)

/-! Memory (20_memory.md). -/

/-- A bus write to a plain cell is read back there, through the echo too, and every other address reads as before (R62,
R63, R66, R95). Region by region, what the cell reads and that the write is one byte of that region's array and changes
nothing else in the machine, the state without an address included. Dropped writes in a closed window, which `plainCell`
leaves out, are the spec's decision D13. -/
def Obligations.PlainWriteReadsBack : Prop :=
  ∀ (s : State) (a : Word) (v : Byte), plainCell s a = true →
    let n := a.toNat
    let t := memWrite s a v
    (s.memoryWf = true → ∀ b, memRead t b = if cellOf b = cellOf a then v else memRead s b)
      ∧ (0x8000 ≤ n → n ≤ 0x9FFF → memRead s a = Memory.read s.ppu.vram (n - 0x8000)
          ∧ t = { s with ppu := { s.ppu with vram := Memory.write s.ppu.vram (n - 0x8000) v } })
      ∧ (0xA000 ≤ n → n ≤ 0xBFFF →
          let i := s.cart.ramBank.toNat * 0x2000 + (n - 0xA000)
          memRead s a = Memory.read s.cart.cram i
            ∧ t = { s with cart := { s.cart with cram := Memory.write s.cart.cram i v } })
      ∧ (0xC000 ≤ n → n ≤ 0xFDFF → memRead s a = Memory.read s.wram (cellOf a - 0xC000)
          ∧ t = { s with wram := Memory.write s.wram (cellOf a - 0xC000) v })
      ∧ (0xFE00 ≤ n → n ≤ 0xFE9F → memRead s a = Memory.read s.ppu.oam (n - 0xFE00)
          ∧ t = { s with ppu := { s.ppu with oam := Memory.write s.ppu.oam (n - 0xFE00) v } })
      ∧ (0xFF80 ≤ n → n ≤ 0xFFFE → memRead s a = Memory.read s.hram (n - 0xFF80)
          ∧ t = { s with hram := Memory.write s.hram (n - 0xFF80) v })
      ∧ (n = 0xFFFF → memRead s a = s.intr.ie ∧ t = { s with intr := { s.intr with ie := v } })

/-- Closed and invalid addresses (R61, R62, R63, R65, R77, R85, R91): a write there changes no state at all; the closed
windows, absent or disabled cartridge RAM, the prohibited area and the unlisted I/O addresses read 0xFF (of these, the
spec's decisions D11, D13, D26). VRAM is closed in mode 3, OAM in modes 2 and 3, with the LCD on (the spec's D14). -/
def Obligations.InertAddresses : Prop :=
  ∀ s : State,
    vramBlocked s.ppu = (s.ppu.lcdc.getLsbD 7 && decide (s.ppu.mode = .drawing))
    ∧ oamBlocked s.ppu = (s.ppu.lcdc.getLsbD 7 && (decide (s.ppu.mode = .oamScan) || decide (s.ppu.mode = .drawing)))
    ∧ ∀ (a : Word) (v : Byte), inertAddress s a = true →
      memWrite s a v = s
      ∧ (0x8000 ≤ a.toNat → a.toNat ≠ 0xFF44 → ¬(0xA000 ≤ a.toNat ∧ a.toNat ≤ 0xBFFF) → memRead s a = 0xFF#8)
      ∧ (0xA000 ≤ a.toNat → a.toNat ≤ 0xBFFF → (s.cart.cartType = .romOnly ∨ s.cart.ramEnable = false) →
          memRead s a = 0xFF#8)

/-- The instruction fetch meets the windows too (R98): code in VRAM during mode 3, and in OAM during modes 2 and 3, is
fetched as RST 38 (the spec's decision D33). -/
def Obligations.FetchFromClosedWindowIsRst38 : Prop :=
  ∀ s : State, lcdOn s.ppu = true →
    (0x8000 ≤ s.cpu.pc.toNat → s.cpu.pc.toNat ≤ 0x9FFF → s.ppu.mode = .drawing → fetchInstr s = .rst_38)
      ∧ (0xFE00 ≤ s.cpu.pc.toNat → s.cpu.pc.toNat ≤ 0xFE9F → (s.ppu.mode = .oamScan ∨ s.ppu.mode = .drawing) →
          fetchInstr s = .rst_38)

/-- The I/O register map (10_state.md R41): what each register reads, what a write of `v` to it changes and that it changes
nothing else, and what it reads right after (decisions D6, D12, D22, D24 and D25 of the spec stand in the map). P1 reads the
selection just written and the inverted buttons of the exposed groups. The reads and the whole effect of the writes of P1,
LCDC and DMA are `JoypadReadAndEdge`, `LcdSwitch` and `OamDmaCopies`. -/
def Obligations.IoRegisterReadAfterWrite : Prop :=
  ∀ (s : State) (v : Byte),
    (∀ a ∈ [0xFF05#16, 0xFF06#16, 0xFF40#16, 0xFF42#16, 0xFF43#16, 0xFF45#16, 0xFF46#16, 0xFF47#16, 0xFF48#16, 0xFF49#16,
        0xFF4A#16, 0xFF4B#16, 0xFFFF#16], memRead (memWrite s a v) a = v)
      ∧ (memRead (memWrite s 0xFF00#16 v) 0xFF00#16).toNat / 16 = 12 + v.toNat / 16 % 4
      ∧ (∀ n, n < 4 → (memRead (memWrite s 0xFF00#16 v) 0xFF00#16).getLsbD n
          = !((!v.getLsbD 4 && s.joypad.buttons.getLsbD n) || (!v.getLsbD 5 && s.joypad.buttons.getLsbD (n + 4))))
      ∧ (memRead (memWrite s 0xFF07#16 v) 0xFF07#16).toNat = 0xF8 + v.toNat % 8
      ∧ (memRead (memWrite s 0xFF0F#16 v) 0xFF0F#16).toNat = 0xE0 + v.toNat % 32
      ∧ memRead (memWrite s 0xFF04#16 v) 0xFF04#16 = 0x00#8
      ∧ (memWrite s 0xFF04#16 v).timer.divCounter = 0x0000#16
      ∧ (memRead (memWrite s 0xFF41#16 v) 0xFF41#16).toNat
          = 0x80 + v.toNat / 8 % 16 * 8 + (if s.ppu.ly = s.ppu.lyc.toNat then 4 else 0) + s.ppu.mode.code.toNat
      ∧ memRead (memWrite s 0xFF44#16 v) 0xFF44#16 = BitVec.ofNat 8 s.ppu.ly
      ∧ memRead (memWrite s 0xFF50#16 v) 0xFF50#16 = 0xFF#8
      ∧ (memWrite s 0xFF50#16 v).bootOn = (s.bootOn && decide (v = 0x00#8))
      ∧ (∀ r ∈ [(0xFF05#16, s.timer.tima), (0xFF06#16, s.timer.tma), (0xFF40#16, s.ppu.lcdc), (0xFF42#16, s.ppu.scy),
          (0xFF43#16, s.ppu.scx), (0xFF45#16, s.ppu.lyc), (0xFF46#16, s.ppu.dma), (0xFF47#16, s.ppu.bgp),
          (0xFF48#16, s.ppu.obp0), (0xFF49#16, s.ppu.obp1), (0xFF4A#16, s.ppu.wy), (0xFF4B#16, s.ppu.wx),
          (0xFF50#16, 0xFF#8), (0xFF44#16, BitVec.ofNat 8 s.ppu.ly), (0xFFFF#16, s.intr.ie)], memRead s r.1 = r.2)
      ∧ (memRead s 0xFF04#16).toNat = s.timer.divCounter.toNat / 256
      ∧ (memRead s 0xFF07#16).toNat = 0xF8 + s.timer.tac.toNat
      ∧ (memRead s 0xFF0F#16).toNat = 0xE0 + s.intr.flags.toNat
      ∧ (memRead s 0xFF41#16).toNat
          = 0x80 + s.ppu.statEn.toNat * 8 + (if s.ppu.ly = s.ppu.lyc.toNat then 4 else 0) + s.ppu.mode.code.toNat
      ∧ PpuMode.hblank.code = 0#2 ∧ PpuMode.vblank.code = 1#2 ∧ PpuMode.oamScan.code = 2#2 ∧ PpuMode.drawing.code = 3#2
      ∧ memWrite s 0xFF04#16 v = { s with timer := { s.timer with divCounter := 0x0000#16 } }
      ∧ memWrite s 0xFF05#16 v = { s with timer := { s.timer with tima := v } }
      ∧ memWrite s 0xFF06#16 v = { s with timer := { s.timer with tma := v } }
      ∧ memWrite s 0xFF07#16 v = { s with timer := { s.timer with tac := BitVec.ofNat 3 v.toNat } }
      ∧ memWrite s 0xFF0F#16 v = { s with intr := { s.intr with flags := BitVec.ofNat 5 v.toNat } }
      ∧ memWrite s 0xFF41#16 v = { s with ppu := { s.ppu with statEn := BitVec.ofNat 4 (v.toNat / 8) } }
      ∧ memWrite s 0xFF42#16 v = { s with ppu := { s.ppu with scy := v } }
      ∧ memWrite s 0xFF43#16 v = { s with ppu := { s.ppu with scx := v } }
      ∧ memWrite s 0xFF44#16 v = s
      ∧ memWrite s 0xFF45#16 v = { s with ppu := { s.ppu with lyc := v } }
      ∧ memWrite s 0xFF47#16 v = { s with ppu := { s.ppu with bgp := v } }
      ∧ memWrite s 0xFF48#16 v = { s with ppu := { s.ppu with obp0 := v } }
      ∧ memWrite s 0xFF49#16 v = { s with ppu := { s.ppu with obp1 := v } }
      ∧ memWrite s 0xFF4A#16 v = { s with ppu := { s.ppu with wy := v } }
      ∧ memWrite s 0xFF4B#16 v = { s with ppu := { s.ppu with wx := v } }
      ∧ memWrite s 0xFF50#16 v = { s with bootOn := s.bootOn && decide (v = 0x00#8) }
      ∧ memWrite s 0xFFFF#16 v = { s with intr := { s.intr with ie := v } }

/-- The cartridge. ROM reads (R61, R62, R85): at 0x0000-0x3FFF, whatever the cartridge, BOOT's byte under the overlay, else
the image's; at 0x4000-0x7FFF on plain ROM the image's own byte. The MBC3 (R86 to R91): what a write to each of the four
control windows stores, and that nothing else changes; the banked ROM read; the cartridge RAM window read disabled, on a
RAM bank, and on each latched clock register; the write to it. The bank reduced modulo the image, the ignored RAM bank values and the zero clock are the spec's decision D26. -/
def Obligations.Mbc3Banking : Prop :=
  ∀ (s : State) (a : Word) (v : Byte),
    (a.toNat ≤ 0x3FFF →
      memRead s a = if a.toNat ≤ 0x00FF ∧ s.bootOn = true then Memory.read s.boot a.toNat else Memory.read s.cart.rom a.toNat)
    ∧ (s.cart.cartType = .romOnly → 0x4000 ≤ a.toNat → a.toNat ≤ 0x7FFF → memRead s a = Memory.read s.cart.rom a.toNat)
    ∧ (s.cart.cartType = .mbc3 →
    let k := (memWrite s a v).cart
    (a.toNat ≤ 0x1FFF → k = { s.cart with ramEnable := decide (v.toNat % 16 = 10) })
      ∧ (0x2000 ≤ a.toNat → a.toNat ≤ 0x3FFF →
          k = { s.cart with romBank := if v.toNat % 128 = 0 then 1#7 else BitVec.ofNat 7 v.toNat })
      ∧ (0x4000 ≤ a.toNat → a.toNat ≤ 0x5FFF →
          k = { s.cart with ramBank := if v.toNat ≤ 3 ∨ (8 ≤ v.toNat ∧ v.toNat ≤ 12) then v else s.cart.ramBank })
      ∧ (0x6000 ≤ a.toNat → a.toNat ≤ 0x7FFF →
          k = { s.cart with
            rtcLatchPrev := v
            rtcLatched := if s.cart.rtcLatchPrev = 0x00#8 ∧ v = 0x01#8 then RtcRegs.zero else s.cart.rtcLatched })
      ∧ (a.toNat ≤ 0x7FFF → memWrite s a v = { s with cart := k })
      ∧ (0x4000 ≤ a.toNat → a.toNat ≤ 0x7FFF →
          memRead s a = Memory.read s.cart.rom (s.cart.romBank.toNat % s.cart.banks * 0x4000 + (a.toNat - 0x4000)))
      ∧ (0xA000 ≤ a.toNat → a.toNat ≤ 0xBFFF →
          (s.cart.ramEnable = false → memRead s a = 0xFF#8 ∧ memWrite s a v = s)
            ∧ (s.cart.ramEnable = true → s.cart.ramBank.toNat ≤ 3 →
                let i := s.cart.ramBank.toNat * 0x2000 + (a.toNat - 0xA000)
                memRead s a = Memory.read s.cart.cram i
                  ∧ memWrite s a v = { s with cart := { s.cart with cram := Memory.write s.cart.cram i v } })
            ∧ (s.cart.ramEnable = true → s.cart.ramBank = 0x08#8 → memRead s a = s.cart.rtcLatched.seconds)
            ∧ (s.cart.ramEnable = true → s.cart.ramBank = 0x09#8 → memRead s a = s.cart.rtcLatched.minutes)
            ∧ (s.cart.ramEnable = true → s.cart.ramBank = 0x0A#8 → memRead s a = s.cart.rtcLatched.hours)
            ∧ (s.cart.ramEnable = true → s.cart.ramBank = 0x0B#8 → memRead s a = s.cart.rtcLatched.dayLow)
            ∧ (s.cart.ramEnable = true → s.cart.ramBank = 0x0C#8 → memRead s a = s.cart.rtcLatched.dayHigh)
            ∧ (s.cart.ramEnable = true → 8 ≤ s.cart.ramBank.toNat → memWrite s a v = s)))
    ∧ RtcRegs.zero = ⟨0x00#8, 0x00#8, 0x00#8, 0x00#8, 0x00#8⟩

/-- OAM DMA (48_ppu.md R340): after a write of `v` to 0xFF46, byte `i` of OAM is the raw read at `v * 256 + i`, for all
160, in any PPU mode (the spec's decision D22); the register holds `v`; nothing else changes. The raw read (20_memory.md
R64) is the CPU's but in VRAM and OAM, where no access window stops it. -/
def Obligations.OamDmaCopies : Prop :=
  ∀ (s : State) (v : Byte), s.memoryWf = true →
    (∀ i, i < 160 → Memory.read (memWrite s 0xFF46#16 v).ppu.oam i
        = rawRead { s with ppu := { s.ppu with dma := v } } (BitVec.ofNat 16 (v.toNat * 256 + i)))
      ∧ (∃ m, memWrite s 0xFF46#16 v = { s with ppu := { s.ppu with dma := v, oam := m } })
      ∧ ∀ a : Word, rawRead s a =
          if 0x8000 ≤ a.toNat ∧ a.toNat ≤ 0x9FFF then Memory.read s.ppu.vram (a.toNat - 0x8000)
          else if 0xFE00 ≤ a.toNat ∧ a.toNat ≤ 0xFE9F then Memory.read s.ppu.oam (a.toNat - 0xFE00)
          else memRead s a

/-- What no step changes: the launch parameters, the cartridge image among them (10_state.md R40; 20_memory.md R61 "Writes
to 0x0000-0x7FFF never change ROM"); the boot overlay never comes back (R78); the undefined-opcode flag is sticky (R29, the
spec's decision D7, assumption log 10). That the step index, which tags the host's events, goes up by one is the model's
choice (log 13). -/
def Obligations.StepKeepsLaunchAndStickyState : Prop :=
  ∀ s t : State, step s = .next t →
    sameLaunch s t ∧ (s.bootOn = false → t.bootOn = false) ∧ (s.cpu.illegalSeen = true → t.cpu.illegalSeen = true)
      ∧ t.stepIndex = s.stepIndex + 1

/-! The step (49_machine_step.md) and interrupts (60_exceptions.md). -/

/-- A machine step (R283, R284, R287, R289). It starts from the state in which the host's events that are due have been
delivered, the earliest in the list first (how the list is tagged is the model's form, assumption log 13). There, when the
bytes at PC decode to `i` and the CPU neither idles nor dispatches, the step is `exec` of `i` on the state with PC past its
bytes, then the promotion of the EI latch (the spec's decision D2); with HALT_BUG and the latch set, the first byte is read
twice and PC moves one less (R291, decision D3); an idle step is 4 T-cycles that change nothing (D5), a dispatch is R282's
entry. In all three the timer then runs one cycle for each T-cycle of the CPU
step, and after it the PPU one dot for each. -/
def Obligations.StepRunsDecodedInstruction : Prop :=
  ∀ s : State,
    let d := delivered s
    let ticked (t : State) : State :=
      { ppuDot^[t.cycles] (timerCycle^[t.cycles] t) with stepIndex := t.stepIndex + 1 }
    let promoted (t : State) : State :=
      if d.cpu.imePending = true ∧ t.cpu.imePending = true then
        { t with cpu := { t.cpu with ime := true, imePending := false } }
      else t
    (∀ (i : Instr) (rest : List Byte), ¬(d.haltBug = true ∧ d.cpu.haltBugLatch = true) → executes d = true →
        decode [memRead d d.cpu.pc, memRead d (d.cpu.pc + 1#16), memRead d (d.cpu.pc + 2#16)] = .ok (i, rest) →
        ∃ t, exec i { d with cpu := { d.cpu with pc := d.cpu.pc + BitVec.ofNat 16 i.length, halted := false } } = .next t
          ∧ step s = .next (ticked (promoted t)))
      ∧ (∀ (i : Instr) (rest : List Byte), d.haltBug = true → d.cpu.haltBugLatch = true → executes d = true →
        decode [memRead d d.cpu.pc, memRead d d.cpu.pc, memRead d (d.cpu.pc + 1#16)] = .ok (i, rest) →
        ∃ t, exec i { d with cpu := { d.cpu with
            pc := d.cpu.pc + BitVec.ofNat 16 (i.length - 1), halted := false, haltBugLatch := false } } = .next t
          ∧ step s = .next (ticked (promoted t)))
      ∧ (d.cpu.halted = true → d.pend = 0#5 → step s = .next (ticked { d with cycles := 4 }))
      ∧ (∀ i, d.cpu.ime = true → picks d i → step s = .next (ticked (d.dispatched i)))
      ∧ (s.inputs = [] → d = s)
      ∧ (∀ e rest, s.inputs = e :: rest → s.stepIndex < e.before → d = s)
      ∧ (∀ n b rest, s.inputs = ⟨n, .setButtons b⟩ :: rest → n ≤ s.stepIndex →
          d = delivered { setButtons b s with inputs := rest })
      ∧ (∀ n rest, s.inputs = ⟨n, .takeFrame⟩ :: rest → n ≤ s.stepIndex →
          d = delivered { s with ppu := { s.ppu with frameReady := false }, inputs := rest })

/-- The three outcomes of a CPU step (R280, R281, R282) and the HALT-bug fetch (R291): idle while halted with nothing
pending; the dispatch of the lowest source enabled and pending, with IME; otherwise `halted` is cleared and an instruction
executes. Every state has one of them. A bit of `pend` is that of IE and of IF. What executes is the instruction that the
bytes fetched decode to, on the state with PC past it, and then the EI latch is promoted (R283). With HALT_BUG and the latch
set, the opcode is fetched without PC moving and the latch is cleared. The spec's decisions D2 to D6. -/
def Obligations.CpuStepOutcomes : Prop :=
  ∀ s : State,
    (s.cpu.halted = true → s.pend = 0#5 → cpuStep s = .next { s with cycles := 4 })
      ∧ (∀ i, s.cpu.ime = true → picks s i → cpuStep s = .next (s.dispatched i))
      ∧ (executes s = true → cpuStep s = executeOne { s with cpu := { s.cpu with halted := false } })
      ∧ (executes s = true ∨ (s.cpu.halted = true ∧ s.pend = 0#5) ∨ (s.cpu.ime = true ∧ ∃ i, picks s i))
      ∧ ((s.haltBug = true ∧ s.cpu.haltBugLatch = true) → (opcodeFetched s).cpu.pc = s.cpu.pc ∧ (opcodeFetched s).cpu.haltBugLatch = false)
      ∧ (¬(s.haltBug = true ∧ s.cpu.haltBugLatch = true) → (opcodeFetched s).cpu.pc = s.cpu.pc + 1#16)
      ∧ opcodeFetched s = { s with cpu := { s.cpu with
          pc := (opcodeFetched s).cpu.pc, haltBugLatch := (opcodeFetched s).cpu.haltBugLatch } }
      ∧ (¬(s.haltBug = true ∧ s.cpu.haltBugLatch = true) → (opcodeFetched s).cpu.haltBugLatch = s.cpu.haltBugLatch)
      ∧ (∀ n, n < 5 → s.pend.getLsbD n = (s.intr.ie.getLsbD n && s.intr.flags.getLsbD n))
      ∧ (let p := (opcodeFetched s).cpu.pc
         ∀ i rest, decode [memRead s s.cpu.pc, memRead s p, memRead s (p + 1#16)] = .ok (i, rest) → fetchInstr s = i)
      ∧ ∃ t, exec (fetchInstr s) { opcodeFetched s with cpu := { (opcodeFetched s).cpu with
            pc := (opcodeFetched s).cpu.pc + BitVec.ofNat 16 ((fetchInstr s).length - 1) } } = .next t
          ∧ executeOne s = .next (if s.cpu.imePending = true ∧ t.cpu.imePending = true then
              { t with cpu := { t.cpu with ime := true, imePending := false } } else t)

/-- The interrupt entry (R282, R354, R355): with IME, and `i` the lowest source pending and enabled, the step clears IME,
the EI latch and that one bit of IF, pushes PC, jumps to 0x0040 + 8 * i, costs 20 T-cycles and runs no
instruction. That it clears the EI latch is the spec's decision D2. -/
def Obligations.InterruptDispatch : Prop :=
  ∀ (s : State) (i : Nat), s.cpu.ime = true → i < 5 →
    s.intr.ie.getLsbD i = true → s.intr.flags.getLsbD i = true →
    (∀ j, j < i → ¬(s.intr.ie.getLsbD j = true ∧ s.intr.flags.getLsbD j = true)) →
    cpuStep s = .next (State.called
      { s with
        cpu := { s.cpu with ime := false, imePending := false, halted := false }
        intr := { s.intr with flags := s.intr.flags &&& ~~~(BitVec.ofNat 5 (2 ^ i)) } }
      s.cpu.pc (BitVec.ofNat 16 (0x0040 + 8 * i)) 20)

/-- The EI delay (45_system.md R264, R283): after EI with IME and the latch clear, the step leaves IME clear and the latch
set; from there the next CPU step executes an instruction even with a request pending, and sets IME unless it is DI
(the spec's decision D2). With either value of HALT_BUG and of its latch, with which the opcode fetch leaves PC (R291). -/
def Obligations.EiDelay : Prop :=
  ∀ s : State, s.cpu.ime = false → executes s = true →
    (s.cpu.imePending = false → fetchInstr s = .ei → ∃ t, cpuStep s = .next t ∧ t.cpu.ime = false
        ∧ t.cpu.imePending = true ∧ t.cpu.halted = false
        ∧ t.cpu.pc = if s.haltBug = true ∧ s.cpu.haltBugLatch = true then s.cpu.pc else s.cpu.pc + 1#16)
      ∧ (s.cpu.imePending = true → ∃ t, cpuStep s = .next t ∧ t.cpu.imePending = false
        ∧ t.cpu.ime = decide (fetchInstr s ≠ .di))

/-! The timer and the joypad (60_exceptions.md). -/

/-- The timer law (R373, R375): enabled with the tap of period `p`, over `n` T-cycles TIMA counts the multiples of `p`
that the counter passes, as long as it does not overflow; disabled it holds; the counter always advances by `n`. -/
def Obligations.TimerCountsPeriods : Prop :=
  ∀ (s : State) (n p : Nat),
    p = 2 ^ (([9, 3, 5, 7] : List Nat).getD (s.timer.tac.toNat % 4) 0 + 1) →
    timerTick n s = timerCycle^[n] s
      ∧ (timerTick n s).timer.divCounter = s.timer.divCounter + BitVec.ofNat 16 n
      ∧ (s.timer.tac.getLsbD 2 = false → (timerTick n s).timer.tima = s.timer.tima ∧ (timerTick n s).intr = s.intr)
      ∧ (s.timer.tac.getLsbD 2 = true →
          s.timer.tima.toNat + ((s.timer.divCounter.toNat + n) / p - s.timer.divCounter.toNat / p) ≤ 255 →
          (timerTick n s).timer.tima.toNat
              = s.timer.tima.toNat + ((s.timer.divCounter.toNat + n) / p - s.timer.divCounter.toNat / p)
            ∧ (timerTick n s).intr = s.intr)

/-- The running timer (R373) and the overflow (R374). One timer cycle adds one to the counter, and increments TIMA exactly
when TAC bit 2 is set and the tap bit falls, which it does when the counter reaches a multiple of the period. The increment
from 0xFF loads TIMA from TMA and requests the Timer interrupt in the same T-cycle (no delay: the spec's decision D24); any
other increment adds one and requests nothing. Nothing else changes. -/
def Obligations.TimaOverflowReloads : Prop :=
  ∀ s : State,
    let advanced : State := { s with timer := { s.timer with divCounter := s.timer.divCounter + 1#16 } }
    let tap := ([9, 3, 5, 7] : List Nat).getD (s.timer.tac.toNat % 4) 0
    let falls := s.timer.divCounter.getLsbD tap = true ∧ (s.timer.divCounter + 1#16).getLsbD tap = false
    timerCycle s = (if s.timer.tac.getLsbD 2 = true ∧ falls then timaIncrement advanced else advanced)
      ∧ (falls ↔ (s.timer.divCounter.toNat + 1) % 2 ^ (tap + 1) = 0)
      ∧ (s.timer.tima = 0xFF#8 → timaIncrement s = { s with
          timer := { s.timer with tima := s.timer.tma }, intr := { s.intr with flags := s.intr.flags ||| 0b00100#5 } })
      ∧ (s.timer.tima ≠ 0xFF#8 → timaIncrement s = { s with timer := { s.timer with tima := s.timer.tima + 1#8 } }
        ∧ (timaIncrement s).timer.tima.toNat = s.timer.tima.toNat + 1)

/-- The joypad (R380, R381): bit `n` of P1's low nibble is 0 exactly when a pressed button of an exposed group pulls it
low; a write to P1 or a host snapshot requests the Joypad interrupt exactly when some bit of the nibble falls, and changes
nothing but the joypad and that request (which bit is which: the spec's decision D25). -/
def Obligations.JoypadReadAndEdge : Prop :=
  ∀ (s : State) (v : Byte),
    (∀ n, n < 4 → (memRead s 0xFF00#16).getLsbD n
        = !((!s.joypad.sel.getLsbD 0 && s.joypad.buttons.getLsbD n) || (!s.joypad.sel.getLsbD 1 && s.joypad.buttons.getLsbD (n + 4))))
      ∧ (memRead s 0xFF00#16).toNat / 16 = 12 + s.joypad.sel.toNat
      ∧ (∀ n, n < 4 → (p1Low s.joypad).getLsbD n = (memRead s 0xFF00#16).getLsbD n)
      ∧ (let t := memWrite s 0xFF00#16 v
         t = { s with joypad := t.joypad, intr := { s.intr with flags := t.intr.flags } }
          ∧ (∀ n, n < 4 → t.intr.flags.getLsbD n = s.intr.flags.getLsbD n) ∧ t.joypad.buttons = s.joypad.buttons
          ∧ t.joypad.sel = v.extractLsb' 4 2 ∧ t.joypad.prev = p1Low t.joypad
          ∧ t.intr.flags.getLsbD 4 = (s.intr.flags.getLsbD 4 || decide (∃ n : Fin 4, s.joypad.prev.getLsbD n = true ∧ (p1Low t.joypad).getLsbD n = false)))
      ∧ (let t := setButtons v s
         t = { s with joypad := t.joypad, intr := { s.intr with flags := t.intr.flags } }
          ∧ (∀ n, n < 4 → t.intr.flags.getLsbD n = s.intr.flags.getLsbD n) ∧ t.joypad.sel = s.joypad.sel
          ∧ t.joypad.buttons = v ∧ t.joypad.prev = p1Low t.joypad
          ∧ t.intr.flags.getLsbD 4 = (s.intr.flags.getLsbD 4 || decide (∃ n : Fin 4, s.joypad.prev.getLsbD n = true ∧ (p1Low t.joypad).getLsbD n = false)))

/-! The picture processing unit (48_ppu.md). -/

/-- Frame arithmetic (R310, R311, R316): with the LCD on, `n` dots move the position by `n` modulo 70,224, so LY takes
each of its 154 values for 456 dots and a frame is exactly 70,224 T-cycles; and the mode stays the function of the
position that R311 gives (mode 3 lasts 172 dots: the spec's decision D36). No dot changes a PPU register, VRAM, OAM, or
anything outside the PPU but IF. -/
def Obligations.PpuPositionAfterDots : Prop :=
  ∀ (s : State) (n : Nat), lcdOn s.ppu = true → s.ppu.ly < 154 → s.ppu.lx < 456 →
    dotOfFrame (ppuTick n s) = (dotOfFrame s + n) % 70224 ∧ (ppuTick n s).ppu.ly < 154 ∧ (ppuTick n s).ppu.lx < 456
      ∧ (s.ppu.mode = modeAt s.ppu.ly s.ppu.lx →
          (ppuTick n s).ppu.mode = modeAt (ppuTick n s).ppu.ly (ppuTick n s).ppu.lx)
      ∧ ∃ (p : Ppu) (f : BitVec 5), ppuTick n s = { s with
          ppu := { s.ppu with
            ly := p.ly, lx := p.lx, mode := p.mode, sprites := p.sprites, windowLine := p.windowLine
            statLinePrev := p.statLinePrev, fb := p.fb, out := p.out, frameReady := p.frameReady }
          intr := { s.intr with flags := f } }

/-- The VBlank request (R313): in one dot, IF bit 0 becomes set exactly when LY goes from 143 to 144; in that dot the frame
is handed to the host, the frame buffer itself stays, and `frame_ready` is set; in every other dot both stay. And of any
70,224 dots in a row, a frame's length, exactly one is that dot. -/
def Obligations.VblankOncePerFrame : Prop :=
  ∀ s : State, lcdOn s.ppu = true → s.ppu.ly < 154 → s.ppu.lx < 456 →
    let t := ppuDot s
    let entry := s.ppu.ly = 143 ∧ s.ppu.lx = 455
    t.intr.flags.getLsbD 0 = (s.intr.flags.getLsbD 0 || decide entry)
      ∧ (entry → t.ppu.ly = 144 ∧ t.ppu.mode = .vblank ∧ t.ppu.out = s.ppu.fb ∧ t.ppu.fb = s.ppu.fb
          ∧ t.ppu.frameReady = true)
      ∧ (¬entry → t.ppu.out = s.ppu.out ∧ t.ppu.frameReady = s.ppu.frameReady)
      ∧ ∃ k, k < 70224 ∧ ∀ j, j < 70224 → (((ppuTick j s).ppu.ly = 143 ∧ (ppuTick (j + 1) s).ppu.ly = 144) ↔ j = k)

/-- The STAT interrupt (R314): its line is the OR of the enabled levels after the dot, remembered, and IF bit 1 becomes set
exactly on a rise of the line (evaluated at every dot: the spec's decision D21). -/
def Obligations.StatInterruptOnRisingEdge : Prop :=
  ∀ s : State, lcdOn s.ppu = true →
    let t := ppuDot s
    let line := (s.ppu.statEn.getLsbD 3 && decide (t.ppu.ly = s.ppu.lyc.toNat))
      || (s.ppu.statEn.getLsbD 2 && decide (t.ppu.mode = .oamScan)) || (s.ppu.statEn.getLsbD 1 && decide (t.ppu.mode = .vblank))
      || (s.ppu.statEn.getLsbD 0 && decide (t.ppu.mode = .hblank))
    t.ppu.statLinePrev = line
      ∧ t.intr.flags.getLsbD 1 = (s.intr.flags.getLsbD 1 || (line && !s.ppu.statLinePrev))
      ∧ t.intr.flags.getLsbD 2 = s.intr.flags.getLsbD 2 ∧ t.intr.flags.getLsbD 3 = s.intr.flags.getLsbD 3
      ∧ t.intr.flags.getLsbD 4 = s.intr.flags.getLsbD 4 ∧ t.intr.ie = s.intr.ie

/-- Switching the LCD (R320): off, the position and the scratch state are cleared and no number of dots changes anything;
on, a frame starts at its first dot in mode 2; a write that leaves bit 7 changes LCDC only. The LCD is on exactly when LCDC
bit 7 is set (R301), and `n` dots are `n` times one dot (R310). The whole of R320 is the spec's decision D14. -/
def Obligations.LcdSwitch : Prop :=
  ∀ (s : State) (v : Byte) (n : Nat),
    let p := (memWrite s 0xFF40#16 v).ppu
    memWrite s 0xFF40#16 v = { s with ppu := p }
      ∧ (lcdOn s.ppu = true → v.getLsbD 7 = false →
        p = { s.ppu with lcdc := v, ly := 0, lx := 0, mode := .hblank, windowLine := 0, sprites := [], statLinePrev := false })
      ∧ (lcdOn s.ppu = false → v.getLsbD 7 = true →
        p = { s.ppu with lcdc := v, ly := 0, lx := 0, mode := .oamScan, windowLine := 0, sprites := [], statLinePrev := false })
      ∧ (lcdOn s.ppu = v.getLsbD 7 → p = { s.ppu with lcdc := v })
      ∧ (lcdOn s.ppu = false → ppuTick n s = s)
      ∧ lcdOn s.ppu = s.ppu.lcdc.getLsbD 7 ∧ ppuTick n s = ppuDot^[n] s

/-- The OAM scan (R325): the sprites kept are the first ten, in OAM order, of the entries whose rows contain the
line, each with its four bytes of OAM (R308); the list is all that the scan changes (the spec's decision D17). -/
def Obligations.OamScanKeepsFirstTen : Prop :=
  ∀ (p : Ppu),
    let height := if p.lcdc.getLsbD 2 then 16 else 8
    let onLine (i : Nat) : Prop := (Memory.read p.oam (4 * i)).toNat ≤ p.ly + 16
      ∧ p.ly + 16 < (Memory.read p.oam (4 * i)).toNat + height
    (oamScan p).sprites.length ≤ 10
      ∧ (∀ e ∈ (oamScan p).sprites, e.index < 40 ∧ onLine e.index ∧ e = oamEntry p e.index
          ∧ e.y = Memory.read p.oam (4 * e.index) ∧ e.x = Memory.read p.oam (4 * e.index + 1)
          ∧ e.tile = Memory.read p.oam (4 * e.index + 2) ∧ e.attr = Memory.read p.oam (4 * e.index + 3))
      ∧ (oamScan p).sprites.Pairwise (fun e e' => e.index < e'.index)
      ∧ (∀ i, i < 40 → onLine i → (∀ e ∈ (oamScan p).sprites, e.index ≠ i) →
          (oamScan p).sprites.length = 10 ∧ ∀ e ∈ (oamScan p).sprites, e.index < i)
      ∧ oamScan p = { p with sprites := (oamScan p).sprites }

/-- The rendering of a line (R305, R307, R326 to R330), and when it runs (R312, decision D16). A pixel's backdrop is the
window where LCDC bit 5 is set and the window covers it, else the background at the scrolled position, and colour index 0
with LCDC bit 0 clear (decision D15). The sprite shown is, of those with a colour other than 0 at the column (decision
D18; its geometry and attribute bits are D17, marked general knowledge G10 and G11), the one with the smallest X, of equal X
the first in the list; it yields to the backdrop where its attribute bit 7 is set and the backdrop's index is not 0. The
window line counter advances exactly when some pixel of the line is a window pixel, that is when WX is at most 166
(decision D19); it is cleared when the frame wraps, and no line of VBlank is rendered. Nothing else of the PPU changes. -/
def Obligations.RenderedLine : Prop :=
  (∀ (p : Ppu) (x : Nat) (hx : x < 160) (hy : p.ly < 144),
    let shade := (((renderLine p).fb[p.ly]'hy)[x]'hx).toNat
    let backdrop (idx : Nat) : Prop :=
      ((p.lcdc.getLsbD 1 = false ∨ ∀ e ∈ p.sprites, spriteColour p x e = 0) → shade = paletteShade p.bgp idx)
        ∧ ∀ before e after, p.lcdc.getLsbD 1 = true → p.sprites = before ++ e :: after → spriteColour p x e ≠ 0 →
            (∀ e' ∈ before, spriteColour p x e' = 0 ∨ e.x.toNat < e'.x.toNat) →
            (∀ e' ∈ after, spriteColour p x e' = 0 ∨ e.x.toNat ≤ e'.x.toNat) →
            shade = if e.attr.getLsbD 7 = true ∧ idx ≠ 0 then paletteShade p.bgp idx
              else paletteShade (if e.attr.getLsbD 4 then p.obp1 else p.obp0) (spriteColour p x e)
    (p.lcdc.getLsbD 0 = false → backdrop 0)
      ∧ (p.lcdc.getLsbD 0 = true → windowAt p x → backdrop (windowColour p x))
      ∧ (p.lcdc.getLsbD 0 = true → ¬windowAt p x → backdrop (backgroundColour p x)))
  ∧ (∀ p : Ppu,
      (∀ (y : Nat) (h : y < 144), y ≠ p.ly → (renderLine p).fb[y]'h = p.fb[y]'h)
        ∧ (renderLine p).windowLine = p.windowLine
            + (if p.lcdc.getLsbD 0 = true ∧ p.lcdc.getLsbD 5 = true ∧ p.wy.toNat ≤ p.ly ∧ p.wx.toNat ≤ 166 then 1 else 0)
        ∧ renderLine p = { p with fb := (renderLine p).fb, windowLine := (renderLine p).windowLine })
  ∧ (∀ s : State, lcdOn s.ppu = true → 144 ≤ s.ppu.ly →
      let q := (ppuDot s).ppu
      q.fb = s.ppu.fb ∧ q.sprites = s.ppu.sprites
        ∧ q.windowLine = if s.ppu.ly = 153 ∧ s.ppu.lx = 455 then 0 else s.ppu.windowLine)
  ∧ (∀ s : State, lcdOn s.ppu = true → s.ppu.ly < 144 →
      let q := (ppuDot s).ppu
      (s.ppu.lx = 251 → q.fb = (renderLine s.ppu).fb ∧ q.windowLine = (renderLine s.ppu).windowLine)
        ∧ (s.ppu.lx ≠ 251 → q.fb = s.ppu.fb ∧ q.windowLine = s.ppu.windowLine)
        ∧ (s.ppu.lx = 79 → q.sprites = (oamScan s.ppu).sprites) ∧ (s.ppu.lx ≠ 79 → q.sprites = s.ppu.sprites))

/-! Reset and the invariant. -/

/-- The skip-boot values that the document itself gives (70_reset_and_hazards.md R402, R403). -/
def Obligations.SkipBootRegisters : Prop :=
  ∀ l : Launch, l.boot = none →
    let s := State.start l
    s.cpu.a = 0x01#8 ∧ s.cpu.f = 0xB0#8 ∧ s.bc = 0x0013#16 ∧ s.de = 0x00D8#16 ∧ s.hl = 0x014D#16
      ∧ s.cpu.sp = 0xFFFE#16 ∧ s.cpu.pc = 0x0100#16 ∧ s.ppu.lcdc = 0x91#8 ∧ s.ppu.bgp = 0xFC#8 ∧ s.bootOn = false
      ∧ s.cart.romBank = 1#7

/-- The invariant holds right after reset, of every launch whose images are in canonical form, with and without BOOT (R292
"from reset on", R401, R402), and every launch that a cartridge image makes has such images (R84), byte for byte the image
and BOOT; a start keeps the launch's parameters. With BOOT the overlay is on and PC at its first byte (PC is the model's
PRESUMED value, log 3), without it off. That the number of 16 KiB banks is taken from the image's length is the
spec's decision D26 (R84; logs 14 and 22). What the canonical form of the memories is (log 2), spelled out. The reset values
among the invariant's clauses that the spec marks as its own decisions or as general knowledge are the model's choice
(assumption logs 1, 3 and 4). -/
def Obligations.ResetInvariant : Prop :=
  (∀ l : Launch, l.imagesWf = true → Invariant (State.start l))
    ∧ (∀ (image : List Byte) (boot : Option (List Byte)) (haltBug : Bool) (l : Launch),
        Launch.ofImage image boot haltBug = some l →
        l.imagesWf = true ∧ l.haltBug = haltBug ∧ 0x4000 * l.banks = image.length
          ∧ (∀ i (h : i < image.length), Memory.read l.rom i = image[i])
          ∧ (boot = none → l.boot = none)
          ∧ ∀ b, boot = some b → ∃ m, l.boot = some m ∧ ∀ i (h : i < b.length), Memory.read m i = b[i])
    ∧ (∀ (l : Launch) (b : Memory), l.boot = some b →
        (State.start l).bootOn = true ∧ (State.start l).boot = b ∧ (State.start l).cpu.pc = 0x0000#16)
    ∧ (∀ l : Launch, l.boot = none → (State.start l).bootOn = false)
    ∧ (∀ l : Launch, (State.start l).cart.rom = l.rom ∧ (State.start l).cart.banks = l.banks
        ∧ (State.start l).cart.cartType = l.cartType ∧ (State.start l).haltBug = l.haltBug)
    ∧ (∀ (size : Nat) (m : Memory), Memory.wf size m = true ↔
        m.Pairwise (fun c d => c.1 < d.1) ∧ ∀ c ∈ m, c.1 < size ∧ c.2 ≠ 0x00#8)
    ∧ (∀ s : State, s.memoryWf = true ↔ Memory.wf 8192 s.ppu.vram = true ∧ Memory.wf 160 s.ppu.oam = true
        ∧ Memory.wf 8192 s.wram = true ∧ Memory.wf 127 s.hram = true ∧ Memory.wf 32768 s.cart.cram = true
        ∧ Memory.wf (0x4000 * s.cart.banks) s.cart.rom = true ∧ Memory.wf 256 s.boot = true)
    ∧ Invariant State.reset

/-- The invariant is kept by every step from every state that meets it, reached or not. Not all of its clauses are R292's:
the window counter up to 144 is the model's reading (assumption log 12, DEDUCED, against R37 and R329); the zero clock and
the RAM bank codes are the model's choice with the spec's decision D26 (logs 17 and 18); the LCD-off position is the spec's
decision D14 (log 22); the memories' canonical form is the model's (log 2). -/
def Obligations.StepKeepsInvariant : Prop :=
  ∀ s t : State, Invariant s → step s = .next t → Invariant t
end

