-- ==== Sys2Proof/Laws/Memory.lean ====
section
/-! SUPPORT. The laws of a memory in canonical form: a read after a write, and that a write keeps the form. -/

namespace Sys2Proof.Machine

theorem Memory.wfFrom_mono {size lo lo' : Nat} {m : Memory} (h : Memory.wfFrom size lo m = true) (hl : lo' ≤ lo) :
    Memory.wfFrom size lo' m = true := by
  cases m with
  | nil => rfl
  | cons c rest =>
    simp only [Memory.wfFrom, Bool.and_eq_true, decide_eq_true_eq] at h ⊢
    exact ⟨⟨⟨by omega, h.1.1.2⟩, h.1.2⟩, h.2⟩

/-- Below the first listed index every byte is the unlisted one. -/
theorem Memory.read_below {size lo : Nat} {m : Memory} (h : Memory.wfFrom size lo m = true) {k : Nat} (hk : k < lo) :
    Memory.read m k = Config.unlistedByte := by
  induction m generalizing lo with
  | nil => rfl
  | cons c rest ih =>
    simp only [Memory.wfFrom, Bool.and_eq_true, decide_eq_true_eq] at h
    simp only [Memory.read]
    rw [if_neg (by omega)]
    exact ih h.2 (by omega)

/-- Reading the index just written, in a memory in canonical form. -/
theorem Memory.read_write_same {size lo : Nat} {m : Memory} (h : Memory.wfFrom size lo m = true) (k : Nat) (v : Byte) :
    Memory.read (Memory.write m k v) k = v := by
  induction m generalizing lo with
  | nil => by_cases hv : v = Config.unlistedByte <;> simp [Memory.write, Memory.read, hv]
  | cons c rest ih =>
    simp only [Memory.wfFrom, Bool.and_eq_true, decide_eq_true_eq] at h
    simp only [Memory.write]
    split
    · split
      · next hk hv =>
        simp only [Memory.read]
        rw [if_neg (by omega), Memory.read_below h.2 (by omega), hv]
      · simp [Memory.read]
    · split
      · split
        · next hk hv => rw [Memory.read_below h.2 (by omega), hv]
        · simp [Memory.read]
      · next hne =>
        simp only [Memory.read]
        rw [if_neg hne]
        exact ih h.2

/-- Reading any other index: no form is needed. -/
theorem Memory.read_write_other {k k' : Nat} (m : Memory) (v : Byte) (hne : k' ≠ k) :
    Memory.read (Memory.write m k v) k' = Memory.read m k' := by
  induction m with
  | nil => simp only [Memory.write]; split <;> simp [Memory.read, hne]
  | cons c rest ih =>
    simp only [Memory.write]
    split
    · split
      · rfl
      · simp [Memory.read, hne]
    · split
      · next hk =>
        split
        · simp only [Memory.read]; rw [if_neg (by omega)]
        · simp only [Memory.read]; rw [if_neg hne, if_neg (by omega)]
      · simp only [Memory.read]
        split
        · rfl
        · exact ih

/-- A read after a write: both laws at once. -/
theorem Memory.read_write {size : Nat} {m : Memory} (h : Memory.wf size m = true) (k k' : Nat) (v : Byte) :
    Memory.read (Memory.write m k v) k' = if k' = k then v else Memory.read m k' := by
  split
  · next e => subst e; exact Memory.read_write_same h _ v
  · next e => exact Memory.read_write_other m v e

theorem Memory.wfFrom_write {size lo k : Nat} {m : Memory} {v : Byte} (h : Memory.wfFrom size lo m = true)
    (hl : lo ≤ k) (hk : k < size) : Memory.wfFrom size lo (Memory.write m k v) = true := by
  induction m generalizing lo with
  | nil =>
    simp only [Memory.write]
    split
    · rfl
    · next hv => simp [Memory.wfFrom, hl, hk, hv]
  | cons c rest ih =>
    have h' := h
    simp only [Memory.wfFrom, Bool.and_eq_true, decide_eq_true_eq] at h'
    simp only [Memory.write]
    split
    · split
      · exact h
      · next hlt hv =>
        simp only [Memory.wfFrom, Bool.and_eq_true, decide_eq_true_eq]
        exact ⟨⟨⟨hl, hk⟩, hv⟩, ⟨⟨⟨by omega, h'.1.1.2⟩, h'.1.2⟩, h'.2⟩⟩
    · split
      · next hk' =>
        split
        · exact Memory.wfFrom_mono h'.2 (by omega)
        · next hv =>
          simp only [Memory.wfFrom, Bool.and_eq_true, decide_eq_true_eq]
          exact ⟨⟨⟨hl, hk⟩, hv⟩, hk' ▸ h'.2⟩
      · simp only [Memory.wfFrom, Bool.and_eq_true, decide_eq_true_eq]
        exact ⟨⟨⟨h'.1.1.1, h'.1.1.2⟩, h'.1.2⟩, ih h'.2 (by omega)⟩

/-- A write below the size keeps the canonical form. -/
theorem Memory.wf_write {size k : Nat} {m : Memory} (v : Byte) (h : Memory.wf size m = true) (hk : k < size) :
    Memory.wf size (Memory.write m k v) = true :=
  Memory.wfFrom_write h (Nat.zero_le k) hk

/-- Every write at once: a list of bytes from `k` on. -/
theorem Memory.wf_writeAll {size k : Nat} {m : Memory} (vs : List Byte) (h : Memory.wf size m = true)
    (hk : k + vs.length ≤ size) : Memory.wf size (Memory.writeAll m k vs) = true := by
  induction vs generalizing m k with
  | nil => exact h
  | cons v vs ih =>
    simp only [List.length_cons] at hk
    exact ih (Memory.wf_write v h (by omega)) (by omega)

/-- The memory right after reset is in canonical form. -/
theorem reset_memoryWf : State.reset.memoryWf = true := rfl

/-- The memories of a state, taken apart. -/
theorem memoryWf_iff (s : State) : s.memoryWf = true ↔
    Memory.wf Config.vramSize s.ppu.vram = true ∧ Memory.wf Config.oamSize s.ppu.oam = true
      ∧ Memory.wf Config.wramSize s.wram = true ∧ Memory.wf Config.hramSize s.hram = true
      ∧ Memory.wf Config.cramSize s.cart.cram = true ∧ Memory.wf (romSize s.cart.banks) s.cart.rom = true
      ∧ Memory.wf Config.bootSize s.boot = true := by
  simp only [State.memoryWf, Bool.and_eq_true, and_assoc]

end Sys2Proof.Machine
end

