-- ==== Sys2Proof/Laws/State.lean ====
section
/-! SUPPORT. One lemma per field and update of the state (Machine/Ops.lean), so that no proof unfolds a record update. -/

namespace Sys2Proof.Machine

/-! `setF` -/

@[simp] theorem setF_cpu_a (s : State) (v : Byte) : (s.setF v).cpu.a = s.cpu.a := rfl
@[simp] theorem setF_cpu_f (s : State) (v : Byte) : (s.setF v).cpu.f = maskFlags v := rfl
@[simp] theorem setF_cpu_b (s : State) (v : Byte) : (s.setF v).cpu.b = s.cpu.b := rfl
@[simp] theorem setF_cpu_c (s : State) (v : Byte) : (s.setF v).cpu.c = s.cpu.c := rfl
@[simp] theorem setF_cpu_d (s : State) (v : Byte) : (s.setF v).cpu.d = s.cpu.d := rfl
@[simp] theorem setF_cpu_e (s : State) (v : Byte) : (s.setF v).cpu.e = s.cpu.e := rfl
@[simp] theorem setF_cpu_h (s : State) (v : Byte) : (s.setF v).cpu.h = s.cpu.h := rfl
@[simp] theorem setF_cpu_l (s : State) (v : Byte) : (s.setF v).cpu.l = s.cpu.l := rfl
@[simp] theorem setF_cpu_sp (s : State) (v : Byte) : (s.setF v).cpu.sp = s.cpu.sp := rfl
@[simp] theorem setF_cpu_pc (s : State) (v : Byte) : (s.setF v).cpu.pc = s.cpu.pc := rfl
@[simp] theorem setF_cpu_ime (s : State) (v : Byte) : (s.setF v).cpu.ime = s.cpu.ime := rfl
@[simp] theorem setF_cpu_imePending (s : State) (v : Byte) : (s.setF v).cpu.imePending = s.cpu.imePending := rfl
@[simp] theorem setF_cpu_halted (s : State) (v : Byte) : (s.setF v).cpu.halted = s.cpu.halted := rfl
@[simp] theorem setF_cpu_illegalSeen (s : State) (v : Byte) : (s.setF v).cpu.illegalSeen = s.cpu.illegalSeen := rfl
@[simp] theorem setF_cpu_illegalOp (s : State) (v : Byte) : (s.setF v).cpu.illegalOp = s.cpu.illegalOp := rfl
@[simp] theorem setF_cpu_haltBugLatch (s : State) (v : Byte) : (s.setF v).cpu.haltBugLatch = s.cpu.haltBugLatch := rfl
@[simp] theorem setF_intr (s : State) (v : Byte) : (s.setF v).intr = s.intr := rfl
@[simp] theorem setF_timer (s : State) (v : Byte) : (s.setF v).timer = s.timer := rfl
@[simp] theorem setF_joypad (s : State) (v : Byte) : (s.setF v).joypad = s.joypad := rfl
@[simp] theorem setF_ppu (s : State) (v : Byte) : (s.setF v).ppu = s.ppu := rfl
@[simp] theorem setF_cart (s : State) (v : Byte) : (s.setF v).cart = s.cart := rfl
@[simp] theorem setF_wram (s : State) (v : Byte) : (s.setF v).wram = s.wram := rfl
@[simp] theorem setF_hram (s : State) (v : Byte) : (s.setF v).hram = s.hram := rfl
@[simp] theorem setF_bootOn (s : State) (v : Byte) : (s.setF v).bootOn = s.bootOn := rfl
@[simp] theorem setF_boot (s : State) (v : Byte) : (s.setF v).boot = s.boot := rfl
@[simp] theorem setF_haltBug (s : State) (v : Byte) : (s.setF v).haltBug = s.haltBug := rfl
@[simp] theorem setF_inputs (s : State) (v : Byte) : (s.setF v).inputs = s.inputs := rfl
@[simp] theorem setF_stepIndex (s : State) (v : Byte) : (s.setF v).stepIndex = s.stepIndex := rfl
@[simp] theorem setF_cycles (s : State) (v : Byte) : (s.setF v).cycles = s.cycles := rfl

/-! `setPc` -/

@[simp] theorem setPc_cpu_a (s : State) (v : Word) : (s.setPc v).cpu.a = s.cpu.a := rfl
@[simp] theorem setPc_cpu_f (s : State) (v : Word) : (s.setPc v).cpu.f = s.cpu.f := rfl
@[simp] theorem setPc_cpu_b (s : State) (v : Word) : (s.setPc v).cpu.b = s.cpu.b := rfl
@[simp] theorem setPc_cpu_c (s : State) (v : Word) : (s.setPc v).cpu.c = s.cpu.c := rfl
@[simp] theorem setPc_cpu_d (s : State) (v : Word) : (s.setPc v).cpu.d = s.cpu.d := rfl
@[simp] theorem setPc_cpu_e (s : State) (v : Word) : (s.setPc v).cpu.e = s.cpu.e := rfl
@[simp] theorem setPc_cpu_h (s : State) (v : Word) : (s.setPc v).cpu.h = s.cpu.h := rfl
@[simp] theorem setPc_cpu_l (s : State) (v : Word) : (s.setPc v).cpu.l = s.cpu.l := rfl
@[simp] theorem setPc_cpu_sp (s : State) (v : Word) : (s.setPc v).cpu.sp = s.cpu.sp := rfl
@[simp] theorem setPc_cpu_pc (s : State) (v : Word) : (s.setPc v).cpu.pc = v := rfl
@[simp] theorem setPc_cpu_ime (s : State) (v : Word) : (s.setPc v).cpu.ime = s.cpu.ime := rfl
@[simp] theorem setPc_cpu_imePending (s : State) (v : Word) : (s.setPc v).cpu.imePending = s.cpu.imePending := rfl
@[simp] theorem setPc_cpu_halted (s : State) (v : Word) : (s.setPc v).cpu.halted = s.cpu.halted := rfl
@[simp] theorem setPc_cpu_illegalSeen (s : State) (v : Word) : (s.setPc v).cpu.illegalSeen = s.cpu.illegalSeen := rfl
@[simp] theorem setPc_cpu_illegalOp (s : State) (v : Word) : (s.setPc v).cpu.illegalOp = s.cpu.illegalOp := rfl
@[simp] theorem setPc_cpu_haltBugLatch (s : State) (v : Word) : (s.setPc v).cpu.haltBugLatch = s.cpu.haltBugLatch := rfl
@[simp] theorem setPc_intr (s : State) (v : Word) : (s.setPc v).intr = s.intr := rfl
@[simp] theorem setPc_timer (s : State) (v : Word) : (s.setPc v).timer = s.timer := rfl
@[simp] theorem setPc_joypad (s : State) (v : Word) : (s.setPc v).joypad = s.joypad := rfl
@[simp] theorem setPc_ppu (s : State) (v : Word) : (s.setPc v).ppu = s.ppu := rfl
@[simp] theorem setPc_cart (s : State) (v : Word) : (s.setPc v).cart = s.cart := rfl
@[simp] theorem setPc_wram (s : State) (v : Word) : (s.setPc v).wram = s.wram := rfl
@[simp] theorem setPc_hram (s : State) (v : Word) : (s.setPc v).hram = s.hram := rfl
@[simp] theorem setPc_bootOn (s : State) (v : Word) : (s.setPc v).bootOn = s.bootOn := rfl
@[simp] theorem setPc_boot (s : State) (v : Word) : (s.setPc v).boot = s.boot := rfl
@[simp] theorem setPc_haltBug (s : State) (v : Word) : (s.setPc v).haltBug = s.haltBug := rfl
@[simp] theorem setPc_inputs (s : State) (v : Word) : (s.setPc v).inputs = s.inputs := rfl
@[simp] theorem setPc_stepIndex (s : State) (v : Word) : (s.setPc v).stepIndex = s.stepIndex := rfl
@[simp] theorem setPc_cycles (s : State) (v : Word) : (s.setPc v).cycles = s.cycles := rfl

/-! `setSp` -/

@[simp] theorem setSp_cpu_a (s : State) (v : Word) : (s.setSp v).cpu.a = s.cpu.a := rfl
@[simp] theorem setSp_cpu_f (s : State) (v : Word) : (s.setSp v).cpu.f = s.cpu.f := rfl
@[simp] theorem setSp_cpu_b (s : State) (v : Word) : (s.setSp v).cpu.b = s.cpu.b := rfl
@[simp] theorem setSp_cpu_c (s : State) (v : Word) : (s.setSp v).cpu.c = s.cpu.c := rfl
@[simp] theorem setSp_cpu_d (s : State) (v : Word) : (s.setSp v).cpu.d = s.cpu.d := rfl
@[simp] theorem setSp_cpu_e (s : State) (v : Word) : (s.setSp v).cpu.e = s.cpu.e := rfl
@[simp] theorem setSp_cpu_h (s : State) (v : Word) : (s.setSp v).cpu.h = s.cpu.h := rfl
@[simp] theorem setSp_cpu_l (s : State) (v : Word) : (s.setSp v).cpu.l = s.cpu.l := rfl
@[simp] theorem setSp_cpu_sp (s : State) (v : Word) : (s.setSp v).cpu.sp = v := rfl
@[simp] theorem setSp_cpu_pc (s : State) (v : Word) : (s.setSp v).cpu.pc = s.cpu.pc := rfl
@[simp] theorem setSp_cpu_ime (s : State) (v : Word) : (s.setSp v).cpu.ime = s.cpu.ime := rfl
@[simp] theorem setSp_cpu_imePending (s : State) (v : Word) : (s.setSp v).cpu.imePending = s.cpu.imePending := rfl
@[simp] theorem setSp_cpu_halted (s : State) (v : Word) : (s.setSp v).cpu.halted = s.cpu.halted := rfl
@[simp] theorem setSp_cpu_illegalSeen (s : State) (v : Word) : (s.setSp v).cpu.illegalSeen = s.cpu.illegalSeen := rfl
@[simp] theorem setSp_cpu_illegalOp (s : State) (v : Word) : (s.setSp v).cpu.illegalOp = s.cpu.illegalOp := rfl
@[simp] theorem setSp_cpu_haltBugLatch (s : State) (v : Word) : (s.setSp v).cpu.haltBugLatch = s.cpu.haltBugLatch := rfl
@[simp] theorem setSp_intr (s : State) (v : Word) : (s.setSp v).intr = s.intr := rfl
@[simp] theorem setSp_timer (s : State) (v : Word) : (s.setSp v).timer = s.timer := rfl
@[simp] theorem setSp_joypad (s : State) (v : Word) : (s.setSp v).joypad = s.joypad := rfl
@[simp] theorem setSp_ppu (s : State) (v : Word) : (s.setSp v).ppu = s.ppu := rfl
@[simp] theorem setSp_cart (s : State) (v : Word) : (s.setSp v).cart = s.cart := rfl
@[simp] theorem setSp_wram (s : State) (v : Word) : (s.setSp v).wram = s.wram := rfl
@[simp] theorem setSp_hram (s : State) (v : Word) : (s.setSp v).hram = s.hram := rfl
@[simp] theorem setSp_bootOn (s : State) (v : Word) : (s.setSp v).bootOn = s.bootOn := rfl
@[simp] theorem setSp_boot (s : State) (v : Word) : (s.setSp v).boot = s.boot := rfl
@[simp] theorem setSp_haltBug (s : State) (v : Word) : (s.setSp v).haltBug = s.haltBug := rfl
@[simp] theorem setSp_inputs (s : State) (v : Word) : (s.setSp v).inputs = s.inputs := rfl
@[simp] theorem setSp_stepIndex (s : State) (v : Word) : (s.setSp v).stepIndex = s.stepIndex := rfl
@[simp] theorem setSp_cycles (s : State) (v : Word) : (s.setSp v).cycles = s.cycles := rfl

/-! `setIme` -/

@[simp] theorem setIme_cpu_a (s : State) (v : Bool) : (s.setIme v).cpu.a = s.cpu.a := rfl
@[simp] theorem setIme_cpu_f (s : State) (v : Bool) : (s.setIme v).cpu.f = s.cpu.f := rfl
@[simp] theorem setIme_cpu_b (s : State) (v : Bool) : (s.setIme v).cpu.b = s.cpu.b := rfl
@[simp] theorem setIme_cpu_c (s : State) (v : Bool) : (s.setIme v).cpu.c = s.cpu.c := rfl
@[simp] theorem setIme_cpu_d (s : State) (v : Bool) : (s.setIme v).cpu.d = s.cpu.d := rfl
@[simp] theorem setIme_cpu_e (s : State) (v : Bool) : (s.setIme v).cpu.e = s.cpu.e := rfl
@[simp] theorem setIme_cpu_h (s : State) (v : Bool) : (s.setIme v).cpu.h = s.cpu.h := rfl
@[simp] theorem setIme_cpu_l (s : State) (v : Bool) : (s.setIme v).cpu.l = s.cpu.l := rfl
@[simp] theorem setIme_cpu_sp (s : State) (v : Bool) : (s.setIme v).cpu.sp = s.cpu.sp := rfl
@[simp] theorem setIme_cpu_pc (s : State) (v : Bool) : (s.setIme v).cpu.pc = s.cpu.pc := rfl
@[simp] theorem setIme_cpu_ime (s : State) (v : Bool) : (s.setIme v).cpu.ime = v := rfl
@[simp] theorem setIme_cpu_imePending (s : State) (v : Bool) : (s.setIme v).cpu.imePending = s.cpu.imePending := rfl
@[simp] theorem setIme_cpu_halted (s : State) (v : Bool) : (s.setIme v).cpu.halted = s.cpu.halted := rfl
@[simp] theorem setIme_cpu_illegalSeen (s : State) (v : Bool) : (s.setIme v).cpu.illegalSeen = s.cpu.illegalSeen := rfl
@[simp] theorem setIme_cpu_illegalOp (s : State) (v : Bool) : (s.setIme v).cpu.illegalOp = s.cpu.illegalOp := rfl
@[simp] theorem setIme_cpu_haltBugLatch (s : State) (v : Bool) : (s.setIme v).cpu.haltBugLatch = s.cpu.haltBugLatch := rfl
@[simp] theorem setIme_intr (s : State) (v : Bool) : (s.setIme v).intr = s.intr := rfl
@[simp] theorem setIme_timer (s : State) (v : Bool) : (s.setIme v).timer = s.timer := rfl
@[simp] theorem setIme_joypad (s : State) (v : Bool) : (s.setIme v).joypad = s.joypad := rfl
@[simp] theorem setIme_ppu (s : State) (v : Bool) : (s.setIme v).ppu = s.ppu := rfl
@[simp] theorem setIme_cart (s : State) (v : Bool) : (s.setIme v).cart = s.cart := rfl
@[simp] theorem setIme_wram (s : State) (v : Bool) : (s.setIme v).wram = s.wram := rfl
@[simp] theorem setIme_hram (s : State) (v : Bool) : (s.setIme v).hram = s.hram := rfl
@[simp] theorem setIme_bootOn (s : State) (v : Bool) : (s.setIme v).bootOn = s.bootOn := rfl
@[simp] theorem setIme_boot (s : State) (v : Bool) : (s.setIme v).boot = s.boot := rfl
@[simp] theorem setIme_haltBug (s : State) (v : Bool) : (s.setIme v).haltBug = s.haltBug := rfl
@[simp] theorem setIme_inputs (s : State) (v : Bool) : (s.setIme v).inputs = s.inputs := rfl
@[simp] theorem setIme_stepIndex (s : State) (v : Bool) : (s.setIme v).stepIndex = s.stepIndex := rfl
@[simp] theorem setIme_cycles (s : State) (v : Bool) : (s.setIme v).cycles = s.cycles := rfl

/-! `setImePending` -/

@[simp] theorem setImePending_cpu_a (s : State) (v : Bool) : (s.setImePending v).cpu.a = s.cpu.a := rfl
@[simp] theorem setImePending_cpu_f (s : State) (v : Bool) : (s.setImePending v).cpu.f = s.cpu.f := rfl
@[simp] theorem setImePending_cpu_b (s : State) (v : Bool) : (s.setImePending v).cpu.b = s.cpu.b := rfl
@[simp] theorem setImePending_cpu_c (s : State) (v : Bool) : (s.setImePending v).cpu.c = s.cpu.c := rfl
@[simp] theorem setImePending_cpu_d (s : State) (v : Bool) : (s.setImePending v).cpu.d = s.cpu.d := rfl
@[simp] theorem setImePending_cpu_e (s : State) (v : Bool) : (s.setImePending v).cpu.e = s.cpu.e := rfl
@[simp] theorem setImePending_cpu_h (s : State) (v : Bool) : (s.setImePending v).cpu.h = s.cpu.h := rfl
@[simp] theorem setImePending_cpu_l (s : State) (v : Bool) : (s.setImePending v).cpu.l = s.cpu.l := rfl
@[simp] theorem setImePending_cpu_sp (s : State) (v : Bool) : (s.setImePending v).cpu.sp = s.cpu.sp := rfl
@[simp] theorem setImePending_cpu_pc (s : State) (v : Bool) : (s.setImePending v).cpu.pc = s.cpu.pc := rfl
@[simp] theorem setImePending_cpu_ime (s : State) (v : Bool) : (s.setImePending v).cpu.ime = s.cpu.ime := rfl
@[simp] theorem setImePending_cpu_imePending (s : State) (v : Bool) : (s.setImePending v).cpu.imePending = v := rfl
@[simp] theorem setImePending_cpu_halted (s : State) (v : Bool) : (s.setImePending v).cpu.halted = s.cpu.halted := rfl
@[simp] theorem setImePending_cpu_illegalSeen (s : State) (v : Bool) : (s.setImePending v).cpu.illegalSeen = s.cpu.illegalSeen := rfl
@[simp] theorem setImePending_cpu_illegalOp (s : State) (v : Bool) : (s.setImePending v).cpu.illegalOp = s.cpu.illegalOp := rfl
@[simp] theorem setImePending_cpu_haltBugLatch (s : State) (v : Bool) : (s.setImePending v).cpu.haltBugLatch = s.cpu.haltBugLatch := rfl
@[simp] theorem setImePending_intr (s : State) (v : Bool) : (s.setImePending v).intr = s.intr := rfl
@[simp] theorem setImePending_timer (s : State) (v : Bool) : (s.setImePending v).timer = s.timer := rfl
@[simp] theorem setImePending_joypad (s : State) (v : Bool) : (s.setImePending v).joypad = s.joypad := rfl
@[simp] theorem setImePending_ppu (s : State) (v : Bool) : (s.setImePending v).ppu = s.ppu := rfl
@[simp] theorem setImePending_cart (s : State) (v : Bool) : (s.setImePending v).cart = s.cart := rfl
@[simp] theorem setImePending_wram (s : State) (v : Bool) : (s.setImePending v).wram = s.wram := rfl
@[simp] theorem setImePending_hram (s : State) (v : Bool) : (s.setImePending v).hram = s.hram := rfl
@[simp] theorem setImePending_bootOn (s : State) (v : Bool) : (s.setImePending v).bootOn = s.bootOn := rfl
@[simp] theorem setImePending_boot (s : State) (v : Bool) : (s.setImePending v).boot = s.boot := rfl
@[simp] theorem setImePending_haltBug (s : State) (v : Bool) : (s.setImePending v).haltBug = s.haltBug := rfl
@[simp] theorem setImePending_inputs (s : State) (v : Bool) : (s.setImePending v).inputs = s.inputs := rfl
@[simp] theorem setImePending_stepIndex (s : State) (v : Bool) : (s.setImePending v).stepIndex = s.stepIndex := rfl
@[simp] theorem setImePending_cycles (s : State) (v : Bool) : (s.setImePending v).cycles = s.cycles := rfl

/-! `setHalted` -/

@[simp] theorem setHalted_cpu_a (s : State) (v : Bool) : (s.setHalted v).cpu.a = s.cpu.a := rfl
@[simp] theorem setHalted_cpu_f (s : State) (v : Bool) : (s.setHalted v).cpu.f = s.cpu.f := rfl
@[simp] theorem setHalted_cpu_b (s : State) (v : Bool) : (s.setHalted v).cpu.b = s.cpu.b := rfl
@[simp] theorem setHalted_cpu_c (s : State) (v : Bool) : (s.setHalted v).cpu.c = s.cpu.c := rfl
@[simp] theorem setHalted_cpu_d (s : State) (v : Bool) : (s.setHalted v).cpu.d = s.cpu.d := rfl
@[simp] theorem setHalted_cpu_e (s : State) (v : Bool) : (s.setHalted v).cpu.e = s.cpu.e := rfl
@[simp] theorem setHalted_cpu_h (s : State) (v : Bool) : (s.setHalted v).cpu.h = s.cpu.h := rfl
@[simp] theorem setHalted_cpu_l (s : State) (v : Bool) : (s.setHalted v).cpu.l = s.cpu.l := rfl
@[simp] theorem setHalted_cpu_sp (s : State) (v : Bool) : (s.setHalted v).cpu.sp = s.cpu.sp := rfl
@[simp] theorem setHalted_cpu_pc (s : State) (v : Bool) : (s.setHalted v).cpu.pc = s.cpu.pc := rfl
@[simp] theorem setHalted_cpu_ime (s : State) (v : Bool) : (s.setHalted v).cpu.ime = s.cpu.ime := rfl
@[simp] theorem setHalted_cpu_imePending (s : State) (v : Bool) : (s.setHalted v).cpu.imePending = s.cpu.imePending := rfl
@[simp] theorem setHalted_cpu_halted (s : State) (v : Bool) : (s.setHalted v).cpu.halted = v := rfl
@[simp] theorem setHalted_cpu_illegalSeen (s : State) (v : Bool) : (s.setHalted v).cpu.illegalSeen = s.cpu.illegalSeen := rfl
@[simp] theorem setHalted_cpu_illegalOp (s : State) (v : Bool) : (s.setHalted v).cpu.illegalOp = s.cpu.illegalOp := rfl
@[simp] theorem setHalted_cpu_haltBugLatch (s : State) (v : Bool) : (s.setHalted v).cpu.haltBugLatch = s.cpu.haltBugLatch := rfl
@[simp] theorem setHalted_intr (s : State) (v : Bool) : (s.setHalted v).intr = s.intr := rfl
@[simp] theorem setHalted_timer (s : State) (v : Bool) : (s.setHalted v).timer = s.timer := rfl
@[simp] theorem setHalted_joypad (s : State) (v : Bool) : (s.setHalted v).joypad = s.joypad := rfl
@[simp] theorem setHalted_ppu (s : State) (v : Bool) : (s.setHalted v).ppu = s.ppu := rfl
@[simp] theorem setHalted_cart (s : State) (v : Bool) : (s.setHalted v).cart = s.cart := rfl
@[simp] theorem setHalted_wram (s : State) (v : Bool) : (s.setHalted v).wram = s.wram := rfl
@[simp] theorem setHalted_hram (s : State) (v : Bool) : (s.setHalted v).hram = s.hram := rfl
@[simp] theorem setHalted_bootOn (s : State) (v : Bool) : (s.setHalted v).bootOn = s.bootOn := rfl
@[simp] theorem setHalted_boot (s : State) (v : Bool) : (s.setHalted v).boot = s.boot := rfl
@[simp] theorem setHalted_haltBug (s : State) (v : Bool) : (s.setHalted v).haltBug = s.haltBug := rfl
@[simp] theorem setHalted_inputs (s : State) (v : Bool) : (s.setHalted v).inputs = s.inputs := rfl
@[simp] theorem setHalted_stepIndex (s : State) (v : Bool) : (s.setHalted v).stepIndex = s.stepIndex := rfl
@[simp] theorem setHalted_cycles (s : State) (v : Bool) : (s.setHalted v).cycles = s.cycles := rfl

/-! `setHaltBugLatch` -/

@[simp] theorem setHaltBugLatch_cpu_a (s : State) (v : Bool) : (s.setHaltBugLatch v).cpu.a = s.cpu.a := rfl
@[simp] theorem setHaltBugLatch_cpu_f (s : State) (v : Bool) : (s.setHaltBugLatch v).cpu.f = s.cpu.f := rfl
@[simp] theorem setHaltBugLatch_cpu_b (s : State) (v : Bool) : (s.setHaltBugLatch v).cpu.b = s.cpu.b := rfl
@[simp] theorem setHaltBugLatch_cpu_c (s : State) (v : Bool) : (s.setHaltBugLatch v).cpu.c = s.cpu.c := rfl
@[simp] theorem setHaltBugLatch_cpu_d (s : State) (v : Bool) : (s.setHaltBugLatch v).cpu.d = s.cpu.d := rfl
@[simp] theorem setHaltBugLatch_cpu_e (s : State) (v : Bool) : (s.setHaltBugLatch v).cpu.e = s.cpu.e := rfl
@[simp] theorem setHaltBugLatch_cpu_h (s : State) (v : Bool) : (s.setHaltBugLatch v).cpu.h = s.cpu.h := rfl
@[simp] theorem setHaltBugLatch_cpu_l (s : State) (v : Bool) : (s.setHaltBugLatch v).cpu.l = s.cpu.l := rfl
@[simp] theorem setHaltBugLatch_cpu_sp (s : State) (v : Bool) : (s.setHaltBugLatch v).cpu.sp = s.cpu.sp := rfl
@[simp] theorem setHaltBugLatch_cpu_pc (s : State) (v : Bool) : (s.setHaltBugLatch v).cpu.pc = s.cpu.pc := rfl
@[simp] theorem setHaltBugLatch_cpu_ime (s : State) (v : Bool) : (s.setHaltBugLatch v).cpu.ime = s.cpu.ime := rfl
@[simp] theorem setHaltBugLatch_cpu_imePending (s : State) (v : Bool) : (s.setHaltBugLatch v).cpu.imePending = s.cpu.imePending := rfl
@[simp] theorem setHaltBugLatch_cpu_halted (s : State) (v : Bool) : (s.setHaltBugLatch v).cpu.halted = s.cpu.halted := rfl
@[simp] theorem setHaltBugLatch_cpu_illegalSeen (s : State) (v : Bool) : (s.setHaltBugLatch v).cpu.illegalSeen = s.cpu.illegalSeen := rfl
@[simp] theorem setHaltBugLatch_cpu_illegalOp (s : State) (v : Bool) : (s.setHaltBugLatch v).cpu.illegalOp = s.cpu.illegalOp := rfl
@[simp] theorem setHaltBugLatch_cpu_haltBugLatch (s : State) (v : Bool) : (s.setHaltBugLatch v).cpu.haltBugLatch = v := rfl
@[simp] theorem setHaltBugLatch_intr (s : State) (v : Bool) : (s.setHaltBugLatch v).intr = s.intr := rfl
@[simp] theorem setHaltBugLatch_timer (s : State) (v : Bool) : (s.setHaltBugLatch v).timer = s.timer := rfl
@[simp] theorem setHaltBugLatch_joypad (s : State) (v : Bool) : (s.setHaltBugLatch v).joypad = s.joypad := rfl
@[simp] theorem setHaltBugLatch_ppu (s : State) (v : Bool) : (s.setHaltBugLatch v).ppu = s.ppu := rfl
@[simp] theorem setHaltBugLatch_cart (s : State) (v : Bool) : (s.setHaltBugLatch v).cart = s.cart := rfl
@[simp] theorem setHaltBugLatch_wram (s : State) (v : Bool) : (s.setHaltBugLatch v).wram = s.wram := rfl
@[simp] theorem setHaltBugLatch_hram (s : State) (v : Bool) : (s.setHaltBugLatch v).hram = s.hram := rfl
@[simp] theorem setHaltBugLatch_bootOn (s : State) (v : Bool) : (s.setHaltBugLatch v).bootOn = s.bootOn := rfl
@[simp] theorem setHaltBugLatch_boot (s : State) (v : Bool) : (s.setHaltBugLatch v).boot = s.boot := rfl
@[simp] theorem setHaltBugLatch_haltBug (s : State) (v : Bool) : (s.setHaltBugLatch v).haltBug = s.haltBug := rfl
@[simp] theorem setHaltBugLatch_inputs (s : State) (v : Bool) : (s.setHaltBugLatch v).inputs = s.inputs := rfl
@[simp] theorem setHaltBugLatch_stepIndex (s : State) (v : Bool) : (s.setHaltBugLatch v).stepIndex = s.stepIndex := rfl
@[simp] theorem setHaltBugLatch_cycles (s : State) (v : Bool) : (s.setHaltBugLatch v).cycles = s.cycles := rfl

/-! `spend` -/

@[simp] theorem spend_cpu (s : State) (n : Nat) : (s.spend n).cpu = s.cpu := rfl
@[simp] theorem spend_intr (s : State) (n : Nat) : (s.spend n).intr = s.intr := rfl
@[simp] theorem spend_timer (s : State) (n : Nat) : (s.spend n).timer = s.timer := rfl
@[simp] theorem spend_joypad (s : State) (n : Nat) : (s.spend n).joypad = s.joypad := rfl
@[simp] theorem spend_ppu (s : State) (n : Nat) : (s.spend n).ppu = s.ppu := rfl
@[simp] theorem spend_cart (s : State) (n : Nat) : (s.spend n).cart = s.cart := rfl
@[simp] theorem spend_wram (s : State) (n : Nat) : (s.spend n).wram = s.wram := rfl
@[simp] theorem spend_hram (s : State) (n : Nat) : (s.spend n).hram = s.hram := rfl
@[simp] theorem spend_bootOn (s : State) (n : Nat) : (s.spend n).bootOn = s.bootOn := rfl
@[simp] theorem spend_boot (s : State) (n : Nat) : (s.spend n).boot = s.boot := rfl
@[simp] theorem spend_haltBug (s : State) (n : Nat) : (s.spend n).haltBug = s.haltBug := rfl
@[simp] theorem spend_inputs (s : State) (n : Nat) : (s.spend n).inputs = s.inputs := rfl
@[simp] theorem spend_stepIndex (s : State) (n : Nat) : (s.spend n).stepIndex = s.stepIndex := rfl
@[simp] theorem spend_cycles (s : State) (n : Nat) : (s.spend n).cycles = n := rfl

/-! `setReg`, `setPair`, `setPair2`: they change the CPU only. -/

@[simp] theorem setReg_intr (s : State) (r : Reg8) (v : Byte) : (s.setReg r v).intr = s.intr := by cases r <;> rfl
@[simp] theorem setReg_timer (s : State) (r : Reg8) (v : Byte) : (s.setReg r v).timer = s.timer := by cases r <;> rfl
@[simp] theorem setReg_joypad (s : State) (r : Reg8) (v : Byte) : (s.setReg r v).joypad = s.joypad := by cases r <;> rfl
@[simp] theorem setReg_ppu (s : State) (r : Reg8) (v : Byte) : (s.setReg r v).ppu = s.ppu := by cases r <;> rfl
@[simp] theorem setReg_cart (s : State) (r : Reg8) (v : Byte) : (s.setReg r v).cart = s.cart := by cases r <;> rfl
@[simp] theorem setReg_wram (s : State) (r : Reg8) (v : Byte) : (s.setReg r v).wram = s.wram := by cases r <;> rfl
@[simp] theorem setReg_hram (s : State) (r : Reg8) (v : Byte) : (s.setReg r v).hram = s.hram := by cases r <;> rfl
@[simp] theorem setReg_bootOn (s : State) (r : Reg8) (v : Byte) : (s.setReg r v).bootOn = s.bootOn := by cases r <;> rfl
@[simp] theorem setReg_boot (s : State) (r : Reg8) (v : Byte) : (s.setReg r v).boot = s.boot := by cases r <;> rfl
@[simp] theorem setReg_haltBug (s : State) (r : Reg8) (v : Byte) : (s.setReg r v).haltBug = s.haltBug := by cases r <;> rfl
@[simp] theorem setReg_inputs (s : State) (r : Reg8) (v : Byte) : (s.setReg r v).inputs = s.inputs := by cases r <;> rfl
@[simp] theorem setReg_stepIndex (s : State) (r : Reg8) (v : Byte) : (s.setReg r v).stepIndex = s.stepIndex := by cases r <;> rfl
@[simp] theorem setReg_cycles (s : State) (r : Reg8) (v : Byte) : (s.setReg r v).cycles = s.cycles := by cases r <;> rfl
@[simp] theorem setReg_cpu_pc (s : State) (r : Reg8) (v : Byte) : (s.setReg r v).cpu.pc = s.cpu.pc := by cases r <;> rfl
@[simp] theorem setReg_cpu_ime (s : State) (r : Reg8) (v : Byte) : (s.setReg r v).cpu.ime = s.cpu.ime := by cases r <;> rfl
@[simp] theorem setReg_cpu_imePending (s : State) (r : Reg8) (v : Byte) : (s.setReg r v).cpu.imePending = s.cpu.imePending := by cases r <;> rfl
@[simp] theorem setReg_cpu_halted (s : State) (r : Reg8) (v : Byte) : (s.setReg r v).cpu.halted = s.cpu.halted := by cases r <;> rfl
@[simp] theorem setReg_cpu_illegalSeen (s : State) (r : Reg8) (v : Byte) : (s.setReg r v).cpu.illegalSeen = s.cpu.illegalSeen := by cases r <;> rfl
@[simp] theorem setReg_cpu_illegalOp (s : State) (r : Reg8) (v : Byte) : (s.setReg r v).cpu.illegalOp = s.cpu.illegalOp := by cases r <;> rfl
@[simp] theorem setReg_cpu_haltBugLatch (s : State) (r : Reg8) (v : Byte) : (s.setReg r v).cpu.haltBugLatch = s.cpu.haltBugLatch := by cases r <;> rfl
@[simp] theorem setReg_cpu_sp (s : State) (r : Reg8) (v : Byte) : (s.setReg r v).cpu.sp = s.cpu.sp := by cases r <;> rfl
@[simp] theorem setReg_cpu_f (s : State) (r : Reg8) (v : Byte) : (s.setReg r v).cpu.f = s.cpu.f := by cases r <;> rfl
@[simp] theorem setPair_intr (s : State) (r : Rp) (v : Word) : (s.setPair r v).intr = s.intr := by cases r <;> rfl
@[simp] theorem setPair_timer (s : State) (r : Rp) (v : Word) : (s.setPair r v).timer = s.timer := by cases r <;> rfl
@[simp] theorem setPair_joypad (s : State) (r : Rp) (v : Word) : (s.setPair r v).joypad = s.joypad := by cases r <;> rfl
@[simp] theorem setPair_ppu (s : State) (r : Rp) (v : Word) : (s.setPair r v).ppu = s.ppu := by cases r <;> rfl
@[simp] theorem setPair_cart (s : State) (r : Rp) (v : Word) : (s.setPair r v).cart = s.cart := by cases r <;> rfl
@[simp] theorem setPair_wram (s : State) (r : Rp) (v : Word) : (s.setPair r v).wram = s.wram := by cases r <;> rfl
@[simp] theorem setPair_hram (s : State) (r : Rp) (v : Word) : (s.setPair r v).hram = s.hram := by cases r <;> rfl
@[simp] theorem setPair_bootOn (s : State) (r : Rp) (v : Word) : (s.setPair r v).bootOn = s.bootOn := by cases r <;> rfl
@[simp] theorem setPair_boot (s : State) (r : Rp) (v : Word) : (s.setPair r v).boot = s.boot := by cases r <;> rfl
@[simp] theorem setPair_haltBug (s : State) (r : Rp) (v : Word) : (s.setPair r v).haltBug = s.haltBug := by cases r <;> rfl
@[simp] theorem setPair_inputs (s : State) (r : Rp) (v : Word) : (s.setPair r v).inputs = s.inputs := by cases r <;> rfl
@[simp] theorem setPair_stepIndex (s : State) (r : Rp) (v : Word) : (s.setPair r v).stepIndex = s.stepIndex := by cases r <;> rfl
@[simp] theorem setPair_cycles (s : State) (r : Rp) (v : Word) : (s.setPair r v).cycles = s.cycles := by cases r <;> rfl
@[simp] theorem setPair_cpu_pc (s : State) (r : Rp) (v : Word) : (s.setPair r v).cpu.pc = s.cpu.pc := by cases r <;> rfl
@[simp] theorem setPair_cpu_ime (s : State) (r : Rp) (v : Word) : (s.setPair r v).cpu.ime = s.cpu.ime := by cases r <;> rfl
@[simp] theorem setPair_cpu_imePending (s : State) (r : Rp) (v : Word) : (s.setPair r v).cpu.imePending = s.cpu.imePending := by cases r <;> rfl
@[simp] theorem setPair_cpu_halted (s : State) (r : Rp) (v : Word) : (s.setPair r v).cpu.halted = s.cpu.halted := by cases r <;> rfl
@[simp] theorem setPair_cpu_illegalSeen (s : State) (r : Rp) (v : Word) : (s.setPair r v).cpu.illegalSeen = s.cpu.illegalSeen := by cases r <;> rfl
@[simp] theorem setPair_cpu_illegalOp (s : State) (r : Rp) (v : Word) : (s.setPair r v).cpu.illegalOp = s.cpu.illegalOp := by cases r <;> rfl
@[simp] theorem setPair_cpu_haltBugLatch (s : State) (r : Rp) (v : Word) : (s.setPair r v).cpu.haltBugLatch = s.cpu.haltBugLatch := by cases r <;> rfl
@[simp] theorem setPair_cpu_f (s : State) (r : Rp) (v : Word) : (s.setPair r v).cpu.f = s.cpu.f := by cases r <;> rfl
@[simp] theorem setPair2_intr (s : State) (r : Rp2) (v : Word) : (s.setPair2 r v).intr = s.intr := by cases r <;> rfl
@[simp] theorem setPair2_timer (s : State) (r : Rp2) (v : Word) : (s.setPair2 r v).timer = s.timer := by cases r <;> rfl
@[simp] theorem setPair2_joypad (s : State) (r : Rp2) (v : Word) : (s.setPair2 r v).joypad = s.joypad := by cases r <;> rfl
@[simp] theorem setPair2_ppu (s : State) (r : Rp2) (v : Word) : (s.setPair2 r v).ppu = s.ppu := by cases r <;> rfl
@[simp] theorem setPair2_cart (s : State) (r : Rp2) (v : Word) : (s.setPair2 r v).cart = s.cart := by cases r <;> rfl
@[simp] theorem setPair2_wram (s : State) (r : Rp2) (v : Word) : (s.setPair2 r v).wram = s.wram := by cases r <;> rfl
@[simp] theorem setPair2_hram (s : State) (r : Rp2) (v : Word) : (s.setPair2 r v).hram = s.hram := by cases r <;> rfl
@[simp] theorem setPair2_bootOn (s : State) (r : Rp2) (v : Word) : (s.setPair2 r v).bootOn = s.bootOn := by cases r <;> rfl
@[simp] theorem setPair2_boot (s : State) (r : Rp2) (v : Word) : (s.setPair2 r v).boot = s.boot := by cases r <;> rfl
@[simp] theorem setPair2_haltBug (s : State) (r : Rp2) (v : Word) : (s.setPair2 r v).haltBug = s.haltBug := by cases r <;> rfl
@[simp] theorem setPair2_inputs (s : State) (r : Rp2) (v : Word) : (s.setPair2 r v).inputs = s.inputs := by cases r <;> rfl
@[simp] theorem setPair2_stepIndex (s : State) (r : Rp2) (v : Word) : (s.setPair2 r v).stepIndex = s.stepIndex := by cases r <;> rfl
@[simp] theorem setPair2_cycles (s : State) (r : Rp2) (v : Word) : (s.setPair2 r v).cycles = s.cycles := by cases r <;> rfl
@[simp] theorem setPair2_cpu_pc (s : State) (r : Rp2) (v : Word) : (s.setPair2 r v).cpu.pc = s.cpu.pc := by cases r <;> rfl
@[simp] theorem setPair2_cpu_ime (s : State) (r : Rp2) (v : Word) : (s.setPair2 r v).cpu.ime = s.cpu.ime := by cases r <;> rfl
@[simp] theorem setPair2_cpu_imePending (s : State) (r : Rp2) (v : Word) : (s.setPair2 r v).cpu.imePending = s.cpu.imePending := by cases r <;> rfl
@[simp] theorem setPair2_cpu_halted (s : State) (r : Rp2) (v : Word) : (s.setPair2 r v).cpu.halted = s.cpu.halted := by cases r <;> rfl
@[simp] theorem setPair2_cpu_illegalSeen (s : State) (r : Rp2) (v : Word) : (s.setPair2 r v).cpu.illegalSeen = s.cpu.illegalSeen := by cases r <;> rfl
@[simp] theorem setPair2_cpu_illegalOp (s : State) (r : Rp2) (v : Word) : (s.setPair2 r v).cpu.illegalOp = s.cpu.illegalOp := by cases r <;> rfl
@[simp] theorem setPair2_cpu_haltBugLatch (s : State) (r : Rp2) (v : Word) : (s.setPair2 r v).cpu.haltBugLatch = s.cpu.haltBugLatch := by cases r <;> rfl
@[simp] theorem setPair2_cpu_sp (s : State) (r : Rp2) (v : Word) : (s.setPair2 r v).cpu.sp = s.cpu.sp := by cases r <;> rfl

/-- Reading a register after writing one. -/
@[simp] theorem reg_setReg (s : State) (r r' : Reg8) (v : Byte) :
    (s.setReg r v).reg r' = if r' = r then v else s.reg r' := by
  cases r <;> cases r' <;> rfl

@[simp] theorem reg_setF (s : State) (r : Reg8) (v : Byte) : (s.setF v).reg r = s.reg r := by cases r <;> rfl

@[simp] theorem reg_setPc (s : State) (r : Reg8) (v : Word) : (s.setPc v).reg r = s.reg r := by cases r <;> rfl

@[simp] theorem reg_setSp (s : State) (r : Reg8) (v : Word) : (s.setSp v).reg r = s.reg r := by cases r <;> rfl

@[simp] theorem reg_spend (s : State) (r : Reg8) (n : Nat) : (s.spend n).reg r = s.reg r := by cases r <;> rfl

/-! The devices' requests change IF only. -/

@[simp] theorem request_cpu (s : State) (i : Source) : (s.request i).cpu = s.cpu := rfl
@[simp] theorem request_timer (s : State) (i : Source) : (s.request i).timer = s.timer := rfl
@[simp] theorem request_joypad (s : State) (i : Source) : (s.request i).joypad = s.joypad := rfl
@[simp] theorem request_ppu (s : State) (i : Source) : (s.request i).ppu = s.ppu := rfl
@[simp] theorem request_cart (s : State) (i : Source) : (s.request i).cart = s.cart := rfl
@[simp] theorem request_wram (s : State) (i : Source) : (s.request i).wram = s.wram := rfl
@[simp] theorem request_hram (s : State) (i : Source) : (s.request i).hram = s.hram := rfl
@[simp] theorem request_bootOn (s : State) (i : Source) : (s.request i).bootOn = s.bootOn := rfl
@[simp] theorem request_boot (s : State) (i : Source) : (s.request i).boot = s.boot := rfl
@[simp] theorem request_haltBug (s : State) (i : Source) : (s.request i).haltBug = s.haltBug := rfl
@[simp] theorem request_inputs (s : State) (i : Source) : (s.request i).inputs = s.inputs := rfl
@[simp] theorem request_stepIndex (s : State) (i : Source) : (s.request i).stepIndex = s.stepIndex := rfl
@[simp] theorem request_cycles (s : State) (i : Source) : (s.request i).cycles = s.cycles := rfl
@[simp] theorem request_ie (s : State) (i : Source) : (s.request i).intr.ie = s.intr.ie := rfl
@[simp] theorem request_flags (s : State) (i : Source) : (s.request i).intr.flags = s.intr.flags ||| i.mask := rfl

end Sys2Proof.Machine
end

