-- ==== Sys2Proof/Laws/Bus.lean ====
section
/-! SUPPORT. What the bus operations can and cannot change: a read looks at nothing of the CPU, a write changes nothing
of the CPU, of the launch parameters, or of the model's own counters, and commutes with a change of the CPU. -/

namespace Sys2Proof.Machine

/-! Reads. -/

@[simp] theorem memRead_cpu (s : State) (c : Cpu) (a : Word) : memRead { s with cpu := c } a = memRead s a := rfl

@[simp] theorem memRead_cycles (s : State) (n : Nat) (a : Word) : memRead { s with cycles := n } a = memRead s a := rfl

@[simp] theorem memRead_setF (s : State) (v : Byte) (a : Word) : memRead (s.setF v) a = memRead s a := rfl

@[simp] theorem memRead_setPc (s : State) (v a : Word) : memRead (s.setPc v) a = memRead s a := rfl

@[simp] theorem memRead_setSp (s : State) (v a : Word) : memRead (s.setSp v) a = memRead s a := rfl

@[simp] theorem memRead_spend (s : State) (n : Nat) (a : Word) : memRead (s.spend n) a = memRead s a := rfl

@[simp] theorem memRead_setReg (s : State) (r : Reg8) (v : Byte) (a : Word) : memRead (s.setReg r v) a = memRead s a := by
  cases r <;> rfl

/-! The OAM DMA: it changes the DMA register and OAM. -/

/-- The OAM that a run of the DMA's turns leaves. -/
theorem oamDma_turns (v : Byte) (s : State) (is : List Nat) (hi : ∀ i ∈ is, i < Config.oamSize) :
    ∃ m, is.foldl (fun t i => oamPut t i (rawRead t (joinBytes v 0x00#8 + BitVec.ofNat 16 i))) s
        = { s with ppu := { s.ppu with oam := m } }
      ∧ (Memory.wf Config.oamSize s.ppu.oam = true → Memory.wf Config.oamSize m = true) := by
  induction is generalizing s with
  | nil => exact ⟨s.ppu.oam, rfl, id⟩
  | cons i is ih =>
    obtain ⟨m, hm, hw⟩ := ih (oamPut s i (rawRead s (joinBytes v 0x00#8 + BitVec.ofNat 16 i)))
      (fun j hj => hi j (List.mem_cons_of_mem _ hj))
    exact ⟨m, hm, fun h => hw (Memory.wf_write _ h (hi i List.mem_cons_self))⟩

/-- Everything the DMA can do. -/
theorem oamDma_eq (v : Byte) (s : State) :
    ∃ m, oamDma v s = { s with ppu := { s.ppu with dma := v, oam := m } }
      ∧ (Memory.wf Config.oamSize s.ppu.oam = true → Memory.wf Config.oamSize m = true) :=
  oamDma_turns v _ _ fun _ => List.mem_range.1

theorem oamDma_setCpu (v : Byte) (s : State) (c : Cpu) : oamDma v { s with cpu := c } = { oamDma v s with cpu := c } := by
  have turns : ∀ (is : List Nat) (t : State),
      is.foldl (fun t i => oamPut t i (rawRead t (joinBytes v 0x00#8 + BitVec.ofNat 16 i))) { t with cpu := c }
        = { is.foldl (fun t i => oamPut t i (rawRead t (joinBytes v 0x00#8 + BitVec.ofNat 16 i))) t with cpu := c } := by
    intro is
    induction is with
    | nil => intro t; rfl
    | cons i is ih => intro t; exact ih (oamPut t i _)
  exact turns _ { s with ppu := { s.ppu with dma := v } }

/-! Writes. -/

/-- Everything a joypad update can do. -/
theorem joypadUpdate_eq (s : State) :
    ∃ f, joypadUpdate s
      = { s with intr := { s.intr with flags := f }, joypad := { s.joypad with prev := p1Low s.joypad } } := by
  by_cases h : s.joypad.prev &&& ~~~(p1Low s.joypad) = 0#4
  · exact ⟨s.intr.flags, by simp [joypadUpdate, h]⟩
  · exact ⟨s.intr.flags ||| Source.joypad.mask, by simp [joypadUpdate, h, State.request]⟩

theorem joypadUpdate_setCpu (s : State) (c : Cpu) :
    joypadUpdate { s with cpu := c } = { joypadUpdate s with cpu := c } := by
  simp only [joypadUpdate]
  split <;> rfl

theorem ioWrite_setCpu (s : State) (a : Nat) (v : Byte) (c : Cpu) :
    ioWrite { s with cpu := c } a v = { ioWrite s a v with cpu := c } := by
  unfold ioWrite
  split
  · exact joypadUpdate_setCpu { s with joypad := { s.joypad with sel := v.extractLsb' 4 2 } } c
  case h_12 => exact oamDma_setCpu v s c
  all_goals first | rfl | (split <;> rfl)

/-- A bus write does not look at the CPU. -/
theorem memWrite_setCpu (s : State) (a : Word) (v : Byte) (c : Cpu) :
    memWrite { s with cpu := c } a v = { memWrite s a v with cpu := c } := by
  simp only [memWrite, busWrite]
  cases regionOf a.toNat
  case io => exact ioWrite_setCpu s _ v c
  all_goals first | rfl | (dsimp only; split <;> rfl)

/-- The parts of the state that no bus write reaches. -/
structure SameCore (s t : State) : Prop where
  cpu : t.cpu = s.cpu
  cartType : t.cart.cartType = s.cart.cartType
  banks : t.cart.banks = s.cart.banks
  rom : t.cart.rom = s.cart.rom
  boot : t.boot = s.boot
  haltBug : t.haltBug = s.haltBug
  inputs : t.inputs = s.inputs
  stepIndex : t.stepIndex = s.stepIndex
  cycles : t.cycles = s.cycles

theorem ioWrite_core (s : State) (a : Nat) (v : Byte) : SameCore s (ioWrite s a v) := by
  unfold ioWrite
  split
  · obtain ⟨f, hf⟩ := joypadUpdate_eq { s with joypad := { s.joypad with sel := v.extractLsb' 4 2 } }
    rw [p1Write, hf]; exact ⟨rfl, rfl, rfl, rfl, rfl, rfl, rfl, rfl, rfl⟩
  case h_12 =>
    obtain ⟨m, hm, -⟩ := oamDma_eq v s
    rw [hm]; exact ⟨rfl, rfl, rfl, rfl, rfl, rfl, rfl, rfl, rfl⟩
  all_goals first
    | exact ⟨rfl, rfl, rfl, rfl, rfl, rfl, rfl, rfl, rfl⟩
    | (split <;> exact ⟨rfl, rfl, rfl, rfl, rfl, rfl, rfl, rfl, rfl⟩)

theorem cartRegWrite_launch (k : Cartridge) (a : Nat) (v : Byte) :
    (cartRegWrite k a v).cartType = k.cartType ∧ (cartRegWrite k a v).banks = k.banks
      ∧ (cartRegWrite k a v).rom = k.rom ∧ (cartRegWrite k a v).cram = k.cram := by
  unfold cartRegWrite
  split <;> (try split_ifs) <;> exact ⟨rfl, rfl, rfl, rfl⟩

theorem cartRamWrite_launch (k : Cartridge) (a : Nat) (v : Byte) :
    ∃ m, cartRamWrite k a v = { k with cram := m } := by
  unfold cartRamWrite
  split
  · exact ⟨k.cram, rfl⟩
  · split_ifs
    · exact ⟨_, rfl⟩
    · exact ⟨k.cram, rfl⟩

/-- A bus write changes nothing of the CPU, the launch parameters and the model's counters. -/
theorem memWrite_core (s : State) (a : Word) (v : Byte) : SameCore s (memWrite s a v) := by
  obtain ⟨h1, h2, h3, -⟩ := cartRegWrite_launch s.cart a.toNat v
  obtain ⟨m, hm⟩ := cartRamWrite_launch s.cart a.toNat v
  simp only [memWrite, busWrite, hm]
  cases regionOf a.toNat
  case io => exact ioWrite_core s _ v
  case rom0 => exact ⟨rfl, h1, h2, h3, rfl, rfl, rfl, rfl, rfl⟩
  case romN => exact ⟨rfl, h1, h2, h3, rfl, rfl, rfl, rfl, rfl⟩
  all_goals first
    | exact ⟨rfl, rfl, rfl, rfl, rfl, rfl, rfl, rfl, rfl⟩
    | (dsimp only; split <;> exact ⟨rfl, rfl, rfl, rfl, rfl, rfl, rfl, rfl, rfl⟩)

@[simp] theorem memWrite_cpu (s : State) (a : Word) (v : Byte) : (memWrite s a v).cpu = s.cpu := (memWrite_core s a v).cpu

@[simp] theorem memWrite_haltBug (s : State) (a : Word) (v : Byte) : (memWrite s a v).haltBug = s.haltBug :=
  (memWrite_core s a v).haltBug

@[simp] theorem memWrite_cycles (s : State) (a : Word) (v : Byte) : (memWrite s a v).cycles = s.cycles :=
  (memWrite_core s a v).cycles

@[simp] theorem memWrite_inputs (s : State) (a : Word) (v : Byte) : (memWrite s a v).inputs = s.inputs :=
  (memWrite_core s a v).inputs

@[simp] theorem memWrite_stepIndex (s : State) (a : Word) (v : Byte) : (memWrite s a v).stepIndex = s.stepIndex :=
  (memWrite_core s a v).stepIndex

/-! The rows of the address table, and the canonical form. -/

/-- The bounds of the row that an address number selects (20_memory.md R61). -/
theorem regionOf_bounds (a : Nat) :
    match regionOf a with
    | .rom0 => a ≤ 0x3FFF
    | .romN => 0x4000 ≤ a ∧ a ≤ 0x7FFF
    | .vram => 0x8000 ≤ a ∧ a ≤ 0x9FFF
    | .cartRam => 0xA000 ≤ a ∧ a ≤ 0xBFFF
    | .wram => 0xC000 ≤ a ∧ a ≤ 0xDFFF
    | .echo => 0xE000 ≤ a ∧ a ≤ 0xFDFF
    | .oam => 0xFE00 ≤ a ∧ a ≤ 0xFE9F
    | .prohibited => 0xFEA0 ≤ a ∧ a ≤ 0xFEFF
    | .io => 0xFF00 ≤ a ∧ a ≤ 0xFF7F
    | .hram => 0xFF80 ≤ a ∧ a ≤ 0xFFFE
    | .ie => 0xFFFF ≤ a := by
  unfold regionOf
  split_ifs <;> simp <;> omega

/-- What the canonical form of all memories depends on. -/
theorem memoryWf_of {s t : State} (h : s.memoryWf = true) (hv : t.ppu.vram = s.ppu.vram) (ho : t.ppu.oam = s.ppu.oam)
    (hw : t.wram = s.wram) (hh : t.hram = s.hram) (hc : t.cart = s.cart) (hb : t.boot = s.boot) : t.memoryWf = true := by
  simpa only [State.memoryWf, hv, ho, hw, hh, hc, hb] using h

theorem ioWrite_memoryWf {s : State} (a : Nat) (v : Byte) (h : s.memoryWf = true) : (ioWrite s a v).memoryWf = true := by
  unfold ioWrite
  split
  · obtain ⟨f, hf⟩ := joypadUpdate_eq { s with joypad := { s.joypad with sel := v.extractLsb' 4 2 } }
    rw [p1Write, hf]
    exact memoryWf_of h rfl rfl rfl rfl rfl rfl
  case h_7 =>
    refine memoryWf_of h ?_ ?_ rfl rfl rfl rfl <;> (simp only [lcdcWrite]; split_ifs <;> rfl)
  case h_12 =>
    obtain ⟨m, hm, hw⟩ := oamDma_eq v s
    rw [memoryWf_iff] at h ⊢
    rw [hm]
    exact ⟨h.1, hw h.2.1, h.2.2⟩
  all_goals first
    | exact memoryWf_of h rfl rfl rfl rfl rfl rfl
    | (split <;> exact memoryWf_of h rfl rfl rfl rfl rfl rfl)

/-- A bus write keeps the canonical form of every memory. -/
theorem memWrite_memoryWf {s : State} (a : Word) (v : Byte) (h : s.memoryWf = true) : (memWrite s a v).memoryWf = true := by
  have hr := regionOf_bounds a.toNat
  simp only [memWrite, busWrite]
  have h' := (memoryWf_iff s).1 h
  obtain ⟨h1, h2, h3, h4, h5, h6, h7⟩ := h'
  obtain ⟨-, hb, hrom, hcram⟩ := cartRegWrite_launch s.cart a.toNat v
  generalize regionOf a.toNat = row at *
  cases row <;> dsimp only at hr ⊢
  case rom0 => rw [memoryWf_iff, hcram, hb, hrom]; exact ⟨h1, h2, h3, h4, h5, h6, h7⟩
  case romN => rw [memoryWf_iff, hcram, hb, hrom]; exact ⟨h1, h2, h3, h4, h5, h6, h7⟩
  case vram =>
    split
    · exact h
    · rw [memoryWf_iff]
      exact ⟨Memory.wf_write v h1 (by simp only [Config.vramSize]; omega), h2, h3, h4, h5, h6, h7⟩
  case cartRam =>
    rw [memoryWf_iff]
    refine ⟨h1, h2, h3, h4, ?_, ?_, h7⟩
    · unfold cartRamWrite
      split
      · exact h5
      · split
        · next hk =>
          simp only [Bool.and_eq_true, decide_eq_true_eq] at hk
          have hi : s.cart.ramBank.toNat * 8192 + (a.toNat - 40960) < 32768 := by omega
          exact Memory.wf_write v h5 hi
        · exact h5
    · obtain ⟨m, hm⟩ := cartRamWrite_launch s.cart a.toNat v
      rw [hm]
      exact h6
  case wram => rw [memoryWf_iff]; exact ⟨h1, h2, Memory.wf_write v h3 (by simp only [Config.wramSize]; omega), h4, h5, h6, h7⟩
  case echo => rw [memoryWf_iff]; exact ⟨h1, h2, Memory.wf_write v h3 (by simp only [Config.wramSize]; omega), h4, h5, h6, h7⟩
  case oam =>
    split
    · exact h
    · rw [memoryWf_iff]
      exact ⟨h1, Memory.wf_write v h2 (by simp only [Config.oamSize]; omega), h3, h4, h5, h6, h7⟩
  case prohibited => exact h
  case io => exact ioWrite_memoryWf _ v h
  case hram => rw [memoryWf_iff]; exact ⟨h1, h2, h3, Memory.wf_write v h4 (by simp only [Config.hramSize]; omega), h5, h6, h7⟩
  case ie => exact memoryWf_of h rfl rfl rfl rfl rfl rfl

end Sys2Proof.Machine
end

