-- ==== Sys2Proof/Laws/Devices.lean ====
section
/-! SUPPORT. What the timer's and the PPU's ticks can change: the timer its counter, TIMA and IF; the PPU its own
position, line and frame state and IF. -/

namespace Sys2Proof.Machine

/-! The timer. -/

/-- Everything one timer cycle can do. -/
theorem timerCycle_eq (s : State) : ∃ tima f, timerCycle s =
    { s with timer := { s.timer with divCounter := s.timer.divCounter + 1#16, tima := tima }, intr := { s.intr with flags := f } } := by
  simp only [timerCycle, timaIncrement]
  split
  · split
    · exact ⟨s.timer.tma, s.intr.flags ||| Source.timer.mask, rfl⟩
    · exact ⟨s.timer.tima + 1#8, s.intr.flags, rfl⟩
  · exact ⟨s.timer.tima, s.intr.flags, rfl⟩

@[simp] theorem timerTick_zero (s : State) : timerTick 0 s = s := rfl

theorem timerTick_succ (c : Nat) (s : State) : timerTick (c + 1) s = timerTick c (timerCycle s) := rfl

theorem timerTick_succ' (c : Nat) (s : State) : timerTick (c + 1) s = timerCycle (timerTick c s) :=
  Function.iterate_succ_apply' timerCycle c s

/-- Everything `c` timer cycles can do: the counter advances by `c`. -/
theorem timerTick_eq (c : Nat) (s : State) : ∃ tima f, timerTick c s =
    { s with
        timer := { s.timer with divCounter := s.timer.divCounter + BitVec.ofNat 16 c, tima := tima }
        intr := { s.intr with flags := f } } := by
  induction c with
  | zero => exact ⟨s.timer.tima, s.intr.flags, by simp⟩
  | succ c ih =>
    obtain ⟨m, f, h⟩ := ih
    obtain ⟨m', f', h'⟩ := timerCycle_eq (timerTick c s)
    refine ⟨m', f', ?_⟩
    rw [timerTick_succ', h', h]
    simp only [BitVec.add_assoc, State.mk.injEq, Timer.mk.injEq, and_true, true_and]
    congr 1
    apply BitVec.eq_of_toNat_eq
    simp [BitVec.toNat_ofNat]

/-! The PPU. -/

/-- The PPU's registers and memories, which its own dots never write (48_ppu.md R300). -/
structure SamePpuRegs (p q : Ppu) : Prop where
  lcdc : q.lcdc = p.lcdc
  statEn : q.statEn = p.statEn
  scy : q.scy = p.scy
  scx : q.scx = p.scx
  lyc : q.lyc = p.lyc
  dma : q.dma = p.dma
  bgp : q.bgp = p.bgp
  obp0 : q.obp0 = p.obp0
  obp1 : q.obp1 = p.obp1
  wy : q.wy = p.wy
  wx : q.wx = p.wx
  vram : q.vram = p.vram
  oam : q.oam = p.oam

theorem SamePpuRegs.refl (p : Ppu) : SamePpuRegs p p := ⟨rfl, rfl, rfl, rfl, rfl, rfl, rfl, rfl, rfl, rfl, rfl, rfl, rfl⟩

theorem SamePpuRegs.after {p q r : Ppu} (h : SamePpuRegs p q) (h' : SamePpuRegs q r) : SamePpuRegs p r :=
  ⟨h'.lcdc.trans h.lcdc, h'.statEn.trans h.statEn, h'.scy.trans h.scy, h'.scx.trans h.scx, h'.lyc.trans h.lyc,
    h'.dma.trans h.dma, h'.bgp.trans h.bgp, h'.obp0.trans h.obp0, h'.obp1.trans h.obp1, h'.wy.trans h.wy,
    h'.wx.trans h.wx, h'.vram.trans h.vram, h'.oam.trans h.oam⟩

theorem ppuAdvance_regs (p : Ppu) : SamePpuRegs p (ppuAdvance p) := by
  unfold ppuAdvance
  dsimp only
  split_ifs <;> exact ⟨rfl, rfl, rfl, rfl, rfl, rfl, rfl, rfl, rfl, rfl, rfl, rfl, rfl⟩

/-- Everything one dot can do. -/
theorem ppuDot_eq (s : State) : ∃ p f, ppuDot s = { s with ppu := p, intr := { s.intr with flags := f } }
    ∧ SamePpuRegs s.ppu p := by
  unfold ppuDot
  split
  · exact ⟨s.ppu, s.intr.flags, rfl, SamePpuRegs.refl _⟩
  · have h0 : SamePpuRegs s.ppu { s.ppu with lx := s.ppu.lx + 1 } :=
      ⟨rfl, rfl, rfl, rfl, rfl, rfl, rfl, rfl, rfl, rfl, rfl, rfl, rfl⟩
    have h := h0.after (ppuAdvance_regs _)
    simp only [statLineUpdate]
    split_ifs <;> exact ⟨_, _, rfl, h.after ⟨rfl, rfl, rfl, rfl, rfl, rfl, rfl, rfl, rfl, rfl, rfl, rfl, rfl⟩⟩

@[simp] theorem ppuTick_zero (s : State) : ppuTick 0 s = s := rfl

theorem ppuTick_succ (c : Nat) (s : State) : ppuTick (c + 1) s = ppuTick c (ppuDot s) := rfl

theorem ppuTick_succ' (c : Nat) (s : State) : ppuTick (c + 1) s = ppuDot (ppuTick c s) :=
  Function.iterate_succ_apply' ppuDot c s

/-- Everything `c` dots can do. -/
theorem ppuTick_eq (c : Nat) (s : State) : ∃ p f, ppuTick c s = { s with ppu := p, intr := { s.intr with flags := f } }
    ∧ SamePpuRegs s.ppu p := by
  induction c with
  | zero => exact ⟨s.ppu, s.intr.flags, rfl, SamePpuRegs.refl _⟩
  | succ c ih =>
    obtain ⟨p, f, h, hr⟩ := ih
    obtain ⟨p', f', h', hr'⟩ := ppuDot_eq (ppuTick c s)
    refine ⟨p', f', ?_, ?_⟩
    · rw [ppuTick_succ', h', h]
    · rw [h] at hr'
      exact hr.after hr'

end Sys2Proof.Machine
end

