-- ==== Sys2Proof/Laws/Families.lean ====
section
/-! SUPPORT. The 512 constructors by families: what a proof over all instructions splits on instead, and the meaning that
`exec` gives a family. The families are the functions of Decode.lean; the instructions that stand alone are named. -/

namespace Sys2Proof.Machine

/-- To show something of every instruction, show it of every family and of every instruction that stands alone. -/
theorem instr_families {P : Instr → Prop}
    (alu : ∀ op x, P (Instr.alu op x))
    (incLoc : ∀ x, P (Instr.incLoc x))
    (decLoc : ∀ x, P (Instr.decLoc x))
    (addHl : ∀ p, P (Instr.addHl p))
    (incPair : ∀ p, P (Instr.incPair p))
    (decPair : ∀ p, P (Instr.decPair p))
    (rot : ∀ op x, P (Instr.rot op x))
    (bit : ∀ n x, P (Instr.bit n x))
    (res : ∀ n x, P (Instr.res n x))
    (set : ∀ n x, P (Instr.set n x))
    (ldRegReg : ∀ r r', P (Instr.ldRegReg r r'))
    (ldRegD8 : ∀ r v, P (Instr.ldRegD8 r v))
    (ldRegMhl : ∀ r, P (Instr.ldRegMhl r))
    (ldMhlReg : ∀ r, P (Instr.ldMhlReg r))
    (ldPairD16 : ∀ p v, P (Instr.ldPairD16 p v))
    (jrCond : ∀ cc e, P (Instr.jrCond cc e))
    (jpCond : ∀ cc a, P (Instr.jpCond cc a))
    (callCond : ∀ cc a, P (Instr.callCond cc a))
    (retCond : ∀ cc, P (Instr.retCond cc))
    (rst : ∀ y, P (Instr.rst y))
    (push : ∀ p, P (Instr.push p))
    (pop : ∀ p, P (Instr.pop p))
    (undefinedOp : ∀ i op, (i, op) ∈ undefinedOpcodes → P i)
    (nop' : P .nop)
    (ld_mbc_a' : P .ld_mbc_a)
    (rlca' : P .rlca)
    (ld_ma16_sp' : ∀ a16, P (.ld_ma16_sp a16))
    (ld_a_mbc' : P .ld_a_mbc)
    (rrca' : P .rrca)
    (stop' : ∀ pad, P (.stop pad))
    (ld_mde_a' : P .ld_mde_a)
    (rla' : P .rla)
    (jr_s8' : ∀ s8, P (.jr_s8 s8))
    (ld_a_mde' : P .ld_a_mde)
    (rra' : P .rra)
    (ld_mhli_a' : P .ld_mhli_a)
    (daa' : P .daa)
    (ld_a_mhli' : P .ld_a_mhli)
    (cpl' : P .cpl)
    (ld_mhld_a' : P .ld_mhld_a)
    (ld_mhl_d8' : ∀ d8, P (.ld_mhl_d8 d8))
    (scf' : P .scf)
    (ld_a_mhld' : P .ld_a_mhld)
    (ccf' : P .ccf)
    (halt' : P .halt)
    (jp_a16' : ∀ a16, P (.jp_a16 a16))
    (ret' : P .ret)
    (prefix_cb' : ∀ cb, P (.prefix_cb cb))
    (call_a16' : ∀ a16, P (.call_a16 a16))
    (reti' : P .reti)
    (ldh_ma8_a' : ∀ a8, P (.ldh_ma8_a a8))
    (ld_mc_a' : P .ld_mc_a)
    (add_sp_s8' : ∀ s8, P (.add_sp_s8 s8))
    (jp_hl' : P .jp_hl)
    (ld_ma16_a' : ∀ a16, P (.ld_ma16_a a16))
    (ldh_a_ma8' : ∀ a8, P (.ldh_a_ma8 a8))
    (ld_a_mc' : P .ld_a_mc)
    (di' : P .di)
    (ld_hl_sp_s8' : ∀ s8, P (.ld_hl_sp_s8 s8))
    (ld_sp_hl' : P .ld_sp_hl)
    (ld_a_ma16' : ∀ a16, P (.ld_a_ma16 a16))
    (ei' : P .ei)
    (i : Instr) : P i :=
  match i with
  | .nop => nop'
  | .ld_bc_d16 d16 => ldPairD16 .bc d16
  | .ld_mbc_a => ld_mbc_a'
  | .inc_bc => incPair .bc
  | .inc_b => incLoc (.reg .b)
  | .dec_b => decLoc (.reg .b)
  | .ld_b_d8 d8 => ldRegD8 .b d8
  | .rlca => rlca'
  | .ld_ma16_sp a16 => ld_ma16_sp' a16
  | .add_hl_bc => addHl .bc
  | .ld_a_mbc => ld_a_mbc'
  | .dec_bc => decPair .bc
  | .inc_c => incLoc (.reg .c)
  | .dec_c => decLoc (.reg .c)
  | .ld_c_d8 d8 => ldRegD8 .c d8
  | .rrca => rrca'
  | .stop pad => stop' pad
  | .ld_de_d16 d16 => ldPairD16 .de d16
  | .ld_mde_a => ld_mde_a'
  | .inc_de => incPair .de
  | .inc_d => incLoc (.reg .d)
  | .dec_d => decLoc (.reg .d)
  | .ld_d_d8 d8 => ldRegD8 .d d8
  | .rla => rla'
  | .jr_s8 s8 => jr_s8' s8
  | .add_hl_de => addHl .de
  | .ld_a_mde => ld_a_mde'
  | .dec_de => decPair .de
  | .inc_e => incLoc (.reg .e)
  | .dec_e => decLoc (.reg .e)
  | .ld_e_d8 d8 => ldRegD8 .e d8
  | .rra => rra'
  | .jr_nz_s8 s8 => jrCond .nz s8
  | .ld_hl_d16 d16 => ldPairD16 .hl d16
  | .ld_mhli_a => ld_mhli_a'
  | .inc_hl => incPair .hl
  | .inc_h => incLoc (.reg .h)
  | .dec_h => decLoc (.reg .h)
  | .ld_h_d8 d8 => ldRegD8 .h d8
  | .daa => daa'
  | .jr_z_s8 s8 => jrCond .z s8
  | .add_hl_hl => addHl .hl
  | .ld_a_mhli => ld_a_mhli'
  | .dec_hl => decPair .hl
  | .inc_l => incLoc (.reg .l)
  | .dec_l => decLoc (.reg .l)
  | .ld_l_d8 d8 => ldRegD8 .l d8
  | .cpl => cpl'
  | .jr_nc_s8 s8 => jrCond .nc s8
  | .ld_sp_d16 d16 => ldPairD16 .sp d16
  | .ld_mhld_a => ld_mhld_a'
  | .inc_sp => incPair .sp
  | .inc_mhl => incLoc .mhl
  | .dec_mhl => decLoc .mhl
  | .ld_mhl_d8 d8 => ld_mhl_d8' d8
  | .scf => scf'
  | .jr_c_s8 s8 => jrCond .c s8
  | .add_hl_sp => addHl .sp
  | .ld_a_mhld => ld_a_mhld'
  | .dec_sp => decPair .sp
  | .inc_a => incLoc (.reg .a)
  | .dec_a => decLoc (.reg .a)
  | .ld_a_d8 d8 => ldRegD8 .a d8
  | .ccf => ccf'
  | .ld_b_b => ldRegReg .b .b
  | .ld_b_c => ldRegReg .b .c
  | .ld_b_d => ldRegReg .b .d
  | .ld_b_e => ldRegReg .b .e
  | .ld_b_h => ldRegReg .b .h
  | .ld_b_l => ldRegReg .b .l
  | .ld_b_mhl => ldRegMhl .b
  | .ld_b_a => ldRegReg .b .a
  | .ld_c_b => ldRegReg .c .b
  | .ld_c_c => ldRegReg .c .c
  | .ld_c_d => ldRegReg .c .d
  | .ld_c_e => ldRegReg .c .e
  | .ld_c_h => ldRegReg .c .h
  | .ld_c_l => ldRegReg .c .l
  | .ld_c_mhl => ldRegMhl .c
  | .ld_c_a => ldRegReg .c .a
  | .ld_d_b => ldRegReg .d .b
  | .ld_d_c => ldRegReg .d .c
  | .ld_d_d => ldRegReg .d .d
  | .ld_d_e => ldRegReg .d .e
  | .ld_d_h => ldRegReg .d .h
  | .ld_d_l => ldRegReg .d .l
  | .ld_d_mhl => ldRegMhl .d
  | .ld_d_a => ldRegReg .d .a
  | .ld_e_b => ldRegReg .e .b
  | .ld_e_c => ldRegReg .e .c
  | .ld_e_d => ldRegReg .e .d
  | .ld_e_e => ldRegReg .e .e
  | .ld_e_h => ldRegReg .e .h
  | .ld_e_l => ldRegReg .e .l
  | .ld_e_mhl => ldRegMhl .e
  | .ld_e_a => ldRegReg .e .a
  | .ld_h_b => ldRegReg .h .b
  | .ld_h_c => ldRegReg .h .c
  | .ld_h_d => ldRegReg .h .d
  | .ld_h_e => ldRegReg .h .e
  | .ld_h_h => ldRegReg .h .h
  | .ld_h_l => ldRegReg .h .l
  | .ld_h_mhl => ldRegMhl .h
  | .ld_h_a => ldRegReg .h .a
  | .ld_l_b => ldRegReg .l .b
  | .ld_l_c => ldRegReg .l .c
  | .ld_l_d => ldRegReg .l .d
  | .ld_l_e => ldRegReg .l .e
  | .ld_l_h => ldRegReg .l .h
  | .ld_l_l => ldRegReg .l .l
  | .ld_l_mhl => ldRegMhl .l
  | .ld_l_a => ldRegReg .l .a
  | .ld_mhl_b => ldMhlReg .b
  | .ld_mhl_c => ldMhlReg .c
  | .ld_mhl_d => ldMhlReg .d
  | .ld_mhl_e => ldMhlReg .e
  | .ld_mhl_h => ldMhlReg .h
  | .ld_mhl_l => ldMhlReg .l
  | .halt => halt'
  | .ld_mhl_a => ldMhlReg .a
  | .ld_a_b => ldRegReg .a .b
  | .ld_a_c => ldRegReg .a .c
  | .ld_a_d => ldRegReg .a .d
  | .ld_a_e => ldRegReg .a .e
  | .ld_a_h => ldRegReg .a .h
  | .ld_a_l => ldRegReg .a .l
  | .ld_a_mhl => ldRegMhl .a
  | .ld_a_a => ldRegReg .a .a
  | .add_a_b => alu .add (.loc (.reg .b))
  | .add_a_c => alu .add (.loc (.reg .c))
  | .add_a_d => alu .add (.loc (.reg .d))
  | .add_a_e => alu .add (.loc (.reg .e))
  | .add_a_h => alu .add (.loc (.reg .h))
  | .add_a_l => alu .add (.loc (.reg .l))
  | .add_a_mhl => alu .add (.loc .mhl)
  | .add_a_a => alu .add (.loc (.reg .a))
  | .adc_a_b => alu .adc (.loc (.reg .b))
  | .adc_a_c => alu .adc (.loc (.reg .c))
  | .adc_a_d => alu .adc (.loc (.reg .d))
  | .adc_a_e => alu .adc (.loc (.reg .e))
  | .adc_a_h => alu .adc (.loc (.reg .h))
  | .adc_a_l => alu .adc (.loc (.reg .l))
  | .adc_a_mhl => alu .adc (.loc .mhl)
  | .adc_a_a => alu .adc (.loc (.reg .a))
  | .sub_b => alu .sub (.loc (.reg .b))
  | .sub_c => alu .sub (.loc (.reg .c))
  | .sub_d => alu .sub (.loc (.reg .d))
  | .sub_e => alu .sub (.loc (.reg .e))
  | .sub_h => alu .sub (.loc (.reg .h))
  | .sub_l => alu .sub (.loc (.reg .l))
  | .sub_mhl => alu .sub (.loc .mhl)
  | .sub_a => alu .sub (.loc (.reg .a))
  | .sbc_a_b => alu .sbc (.loc (.reg .b))
  | .sbc_a_c => alu .sbc (.loc (.reg .c))
  | .sbc_a_d => alu .sbc (.loc (.reg .d))
  | .sbc_a_e => alu .sbc (.loc (.reg .e))
  | .sbc_a_h => alu .sbc (.loc (.reg .h))
  | .sbc_a_l => alu .sbc (.loc (.reg .l))
  | .sbc_a_mhl => alu .sbc (.loc .mhl)
  | .sbc_a_a => alu .sbc (.loc (.reg .a))
  | .and_b => alu .and (.loc (.reg .b))
  | .and_c => alu .and (.loc (.reg .c))
  | .and_d => alu .and (.loc (.reg .d))
  | .and_e => alu .and (.loc (.reg .e))
  | .and_h => alu .and (.loc (.reg .h))
  | .and_l => alu .and (.loc (.reg .l))
  | .and_mhl => alu .and (.loc .mhl)
  | .and_a => alu .and (.loc (.reg .a))
  | .xor_b => alu .xor (.loc (.reg .b))
  | .xor_c => alu .xor (.loc (.reg .c))
  | .xor_d => alu .xor (.loc (.reg .d))
  | .xor_e => alu .xor (.loc (.reg .e))
  | .xor_h => alu .xor (.loc (.reg .h))
  | .xor_l => alu .xor (.loc (.reg .l))
  | .xor_mhl => alu .xor (.loc .mhl)
  | .xor_a => alu .xor (.loc (.reg .a))
  | .or_b => alu .or (.loc (.reg .b))
  | .or_c => alu .or (.loc (.reg .c))
  | .or_d => alu .or (.loc (.reg .d))
  | .or_e => alu .or (.loc (.reg .e))
  | .or_h => alu .or (.loc (.reg .h))
  | .or_l => alu .or (.loc (.reg .l))
  | .or_mhl => alu .or (.loc .mhl)
  | .or_a => alu .or (.loc (.reg .a))
  | .cp_b => alu .cp (.loc (.reg .b))
  | .cp_c => alu .cp (.loc (.reg .c))
  | .cp_d => alu .cp (.loc (.reg .d))
  | .cp_e => alu .cp (.loc (.reg .e))
  | .cp_h => alu .cp (.loc (.reg .h))
  | .cp_l => alu .cp (.loc (.reg .l))
  | .cp_mhl => alu .cp (.loc .mhl)
  | .cp_a => alu .cp (.loc (.reg .a))
  | .ret_nz => retCond .nz
  | .pop_bc => pop .bc
  | .jp_nz_a16 a16 => jpCond .nz a16
  | .jp_a16 a16 => jp_a16' a16
  | .call_nz_a16 a16 => callCond .nz a16
  | .push_bc => push .bc
  | .add_a_d8 d8 => alu .add (.imm d8)
  | .rst_00 => rst .i0
  | .ret_z => retCond .z
  | .ret => ret'
  | .jp_z_a16 a16 => jpCond .z a16
  | .prefix_cb cb => prefix_cb' cb
  | .call_z_a16 a16 => callCond .z a16
  | .call_a16 a16 => call_a16' a16
  | .adc_a_d8 d8 => alu .adc (.imm d8)
  | .rst_08 => rst .i1
  | .ret_nc => retCond .nc
  | .pop_de => pop .de
  | .jp_nc_a16 a16 => jpCond .nc a16
  | .illegal_d3 => undefinedOp _ 0xD3#8 (by simp [undefinedOpcodes])
  | .call_nc_a16 a16 => callCond .nc a16
  | .push_de => push .de
  | .sub_d8 d8 => alu .sub (.imm d8)
  | .rst_10 => rst .i2
  | .ret_c => retCond .c
  | .reti => reti'
  | .jp_c_a16 a16 => jpCond .c a16
  | .illegal_db => undefinedOp _ 0xDB#8 (by simp [undefinedOpcodes])
  | .call_c_a16 a16 => callCond .c a16
  | .illegal_dd => undefinedOp _ 0xDD#8 (by simp [undefinedOpcodes])
  | .sbc_a_d8 d8 => alu .sbc (.imm d8)
  | .rst_18 => rst .i3
  | .ldh_ma8_a a8 => ldh_ma8_a' a8
  | .pop_hl => pop .hl
  | .ld_mc_a => ld_mc_a'
  | .illegal_e3 => undefinedOp _ 0xE3#8 (by simp [undefinedOpcodes])
  | .illegal_e4 => undefinedOp _ 0xE4#8 (by simp [undefinedOpcodes])
  | .push_hl => push .hl
  | .and_d8 d8 => alu .and (.imm d8)
  | .rst_20 => rst .i4
  | .add_sp_s8 s8 => add_sp_s8' s8
  | .jp_hl => jp_hl'
  | .ld_ma16_a a16 => ld_ma16_a' a16
  | .illegal_eb => undefinedOp _ 0xEB#8 (by simp [undefinedOpcodes])
  | .illegal_ec => undefinedOp _ 0xEC#8 (by simp [undefinedOpcodes])
  | .illegal_ed => undefinedOp _ 0xED#8 (by simp [undefinedOpcodes])
  | .xor_d8 d8 => alu .xor (.imm d8)
  | .rst_28 => rst .i5
  | .ldh_a_ma8 a8 => ldh_a_ma8' a8
  | .pop_af => pop .af
  | .ld_a_mc => ld_a_mc'
  | .di => di'
  | .illegal_f4 => undefinedOp _ 0xF4#8 (by simp [undefinedOpcodes])
  | .push_af => push .af
  | .or_d8 d8 => alu .or (.imm d8)
  | .rst_30 => rst .i6
  | .ld_hl_sp_s8 s8 => ld_hl_sp_s8' s8
  | .ld_sp_hl => ld_sp_hl'
  | .ld_a_ma16 a16 => ld_a_ma16' a16
  | .ei => ei'
  | .illegal_fc => undefinedOp _ 0xFC#8 (by simp [undefinedOpcodes])
  | .illegal_fd => undefinedOp _ 0xFD#8 (by simp [undefinedOpcodes])
  | .cp_d8 d8 => alu .cp (.imm d8)
  | .rst_38 => rst .i7
  | .rlc_b => rot .rlc (.reg .b)
  | .rlc_c => rot .rlc (.reg .c)
  | .rlc_d => rot .rlc (.reg .d)
  | .rlc_e => rot .rlc (.reg .e)
  | .rlc_h => rot .rlc (.reg .h)
  | .rlc_l => rot .rlc (.reg .l)
  | .rlc_mhl => rot .rlc .mhl
  | .rlc_a => rot .rlc (.reg .a)
  | .rrc_b => rot .rrc (.reg .b)
  | .rrc_c => rot .rrc (.reg .c)
  | .rrc_d => rot .rrc (.reg .d)
  | .rrc_e => rot .rrc (.reg .e)
  | .rrc_h => rot .rrc (.reg .h)
  | .rrc_l => rot .rrc (.reg .l)
  | .rrc_mhl => rot .rrc .mhl
  | .rrc_a => rot .rrc (.reg .a)
  | .rl_b => rot .rl (.reg .b)
  | .rl_c => rot .rl (.reg .c)
  | .rl_d => rot .rl (.reg .d)
  | .rl_e => rot .rl (.reg .e)
  | .rl_h => rot .rl (.reg .h)
  | .rl_l => rot .rl (.reg .l)
  | .rl_mhl => rot .rl .mhl
  | .rl_a => rot .rl (.reg .a)
  | .rr_b => rot .rr (.reg .b)
  | .rr_c => rot .rr (.reg .c)
  | .rr_d => rot .rr (.reg .d)
  | .rr_e => rot .rr (.reg .e)
  | .rr_h => rot .rr (.reg .h)
  | .rr_l => rot .rr (.reg .l)
  | .rr_mhl => rot .rr .mhl
  | .rr_a => rot .rr (.reg .a)
  | .sla_b => rot .sla (.reg .b)
  | .sla_c => rot .sla (.reg .c)
  | .sla_d => rot .sla (.reg .d)
  | .sla_e => rot .sla (.reg .e)
  | .sla_h => rot .sla (.reg .h)
  | .sla_l => rot .sla (.reg .l)
  | .sla_mhl => rot .sla .mhl
  | .sla_a => rot .sla (.reg .a)
  | .sra_b => rot .sra (.reg .b)
  | .sra_c => rot .sra (.reg .c)
  | .sra_d => rot .sra (.reg .d)
  | .sra_e => rot .sra (.reg .e)
  | .sra_h => rot .sra (.reg .h)
  | .sra_l => rot .sra (.reg .l)
  | .sra_mhl => rot .sra .mhl
  | .sra_a => rot .sra (.reg .a)
  | .swap_b => rot .swap (.reg .b)
  | .swap_c => rot .swap (.reg .c)
  | .swap_d => rot .swap (.reg .d)
  | .swap_e => rot .swap (.reg .e)
  | .swap_h => rot .swap (.reg .h)
  | .swap_l => rot .swap (.reg .l)
  | .swap_mhl => rot .swap .mhl
  | .swap_a => rot .swap (.reg .a)
  | .srl_b => rot .srl (.reg .b)
  | .srl_c => rot .srl (.reg .c)
  | .srl_d => rot .srl (.reg .d)
  | .srl_e => rot .srl (.reg .e)
  | .srl_h => rot .srl (.reg .h)
  | .srl_l => rot .srl (.reg .l)
  | .srl_mhl => rot .srl .mhl
  | .srl_a => rot .srl (.reg .a)
  | .bit_0_b => bit .i0 (.reg .b)
  | .bit_0_c => bit .i0 (.reg .c)
  | .bit_0_d => bit .i0 (.reg .d)
  | .bit_0_e => bit .i0 (.reg .e)
  | .bit_0_h => bit .i0 (.reg .h)
  | .bit_0_l => bit .i0 (.reg .l)
  | .bit_0_mhl => bit .i0 .mhl
  | .bit_0_a => bit .i0 (.reg .a)
  | .bit_1_b => bit .i1 (.reg .b)
  | .bit_1_c => bit .i1 (.reg .c)
  | .bit_1_d => bit .i1 (.reg .d)
  | .bit_1_e => bit .i1 (.reg .e)
  | .bit_1_h => bit .i1 (.reg .h)
  | .bit_1_l => bit .i1 (.reg .l)
  | .bit_1_mhl => bit .i1 .mhl
  | .bit_1_a => bit .i1 (.reg .a)
  | .bit_2_b => bit .i2 (.reg .b)
  | .bit_2_c => bit .i2 (.reg .c)
  | .bit_2_d => bit .i2 (.reg .d)
  | .bit_2_e => bit .i2 (.reg .e)
  | .bit_2_h => bit .i2 (.reg .h)
  | .bit_2_l => bit .i2 (.reg .l)
  | .bit_2_mhl => bit .i2 .mhl
  | .bit_2_a => bit .i2 (.reg .a)
  | .bit_3_b => bit .i3 (.reg .b)
  | .bit_3_c => bit .i3 (.reg .c)
  | .bit_3_d => bit .i3 (.reg .d)
  | .bit_3_e => bit .i3 (.reg .e)
  | .bit_3_h => bit .i3 (.reg .h)
  | .bit_3_l => bit .i3 (.reg .l)
  | .bit_3_mhl => bit .i3 .mhl
  | .bit_3_a => bit .i3 (.reg .a)
  | .bit_4_b => bit .i4 (.reg .b)
  | .bit_4_c => bit .i4 (.reg .c)
  | .bit_4_d => bit .i4 (.reg .d)
  | .bit_4_e => bit .i4 (.reg .e)
  | .bit_4_h => bit .i4 (.reg .h)
  | .bit_4_l => bit .i4 (.reg .l)
  | .bit_4_mhl => bit .i4 .mhl
  | .bit_4_a => bit .i4 (.reg .a)
  | .bit_5_b => bit .i5 (.reg .b)
  | .bit_5_c => bit .i5 (.reg .c)
  | .bit_5_d => bit .i5 (.reg .d)
  | .bit_5_e => bit .i5 (.reg .e)
  | .bit_5_h => bit .i5 (.reg .h)
  | .bit_5_l => bit .i5 (.reg .l)
  | .bit_5_mhl => bit .i5 .mhl
  | .bit_5_a => bit .i5 (.reg .a)
  | .bit_6_b => bit .i6 (.reg .b)
  | .bit_6_c => bit .i6 (.reg .c)
  | .bit_6_d => bit .i6 (.reg .d)
  | .bit_6_e => bit .i6 (.reg .e)
  | .bit_6_h => bit .i6 (.reg .h)
  | .bit_6_l => bit .i6 (.reg .l)
  | .bit_6_mhl => bit .i6 .mhl
  | .bit_6_a => bit .i6 (.reg .a)
  | .bit_7_b => bit .i7 (.reg .b)
  | .bit_7_c => bit .i7 (.reg .c)
  | .bit_7_d => bit .i7 (.reg .d)
  | .bit_7_e => bit .i7 (.reg .e)
  | .bit_7_h => bit .i7 (.reg .h)
  | .bit_7_l => bit .i7 (.reg .l)
  | .bit_7_mhl => bit .i7 .mhl
  | .bit_7_a => bit .i7 (.reg .a)
  | .res_0_b => res .i0 (.reg .b)
  | .res_0_c => res .i0 (.reg .c)
  | .res_0_d => res .i0 (.reg .d)
  | .res_0_e => res .i0 (.reg .e)
  | .res_0_h => res .i0 (.reg .h)
  | .res_0_l => res .i0 (.reg .l)
  | .res_0_mhl => res .i0 .mhl
  | .res_0_a => res .i0 (.reg .a)
  | .res_1_b => res .i1 (.reg .b)
  | .res_1_c => res .i1 (.reg .c)
  | .res_1_d => res .i1 (.reg .d)
  | .res_1_e => res .i1 (.reg .e)
  | .res_1_h => res .i1 (.reg .h)
  | .res_1_l => res .i1 (.reg .l)
  | .res_1_mhl => res .i1 .mhl
  | .res_1_a => res .i1 (.reg .a)
  | .res_2_b => res .i2 (.reg .b)
  | .res_2_c => res .i2 (.reg .c)
  | .res_2_d => res .i2 (.reg .d)
  | .res_2_e => res .i2 (.reg .e)
  | .res_2_h => res .i2 (.reg .h)
  | .res_2_l => res .i2 (.reg .l)
  | .res_2_mhl => res .i2 .mhl
  | .res_2_a => res .i2 (.reg .a)
  | .res_3_b => res .i3 (.reg .b)
  | .res_3_c => res .i3 (.reg .c)
  | .res_3_d => res .i3 (.reg .d)
  | .res_3_e => res .i3 (.reg .e)
  | .res_3_h => res .i3 (.reg .h)
  | .res_3_l => res .i3 (.reg .l)
  | .res_3_mhl => res .i3 .mhl
  | .res_3_a => res .i3 (.reg .a)
  | .res_4_b => res .i4 (.reg .b)
  | .res_4_c => res .i4 (.reg .c)
  | .res_4_d => res .i4 (.reg .d)
  | .res_4_e => res .i4 (.reg .e)
  | .res_4_h => res .i4 (.reg .h)
  | .res_4_l => res .i4 (.reg .l)
  | .res_4_mhl => res .i4 .mhl
  | .res_4_a => res .i4 (.reg .a)
  | .res_5_b => res .i5 (.reg .b)
  | .res_5_c => res .i5 (.reg .c)
  | .res_5_d => res .i5 (.reg .d)
  | .res_5_e => res .i5 (.reg .e)
  | .res_5_h => res .i5 (.reg .h)
  | .res_5_l => res .i5 (.reg .l)
  | .res_5_mhl => res .i5 .mhl
  | .res_5_a => res .i5 (.reg .a)
  | .res_6_b => res .i6 (.reg .b)
  | .res_6_c => res .i6 (.reg .c)
  | .res_6_d => res .i6 (.reg .d)
  | .res_6_e => res .i6 (.reg .e)
  | .res_6_h => res .i6 (.reg .h)
  | .res_6_l => res .i6 (.reg .l)
  | .res_6_mhl => res .i6 .mhl
  | .res_6_a => res .i6 (.reg .a)
  | .res_7_b => res .i7 (.reg .b)
  | .res_7_c => res .i7 (.reg .c)
  | .res_7_d => res .i7 (.reg .d)
  | .res_7_e => res .i7 (.reg .e)
  | .res_7_h => res .i7 (.reg .h)
  | .res_7_l => res .i7 (.reg .l)
  | .res_7_mhl => res .i7 .mhl
  | .res_7_a => res .i7 (.reg .a)
  | .set_0_b => set .i0 (.reg .b)
  | .set_0_c => set .i0 (.reg .c)
  | .set_0_d => set .i0 (.reg .d)
  | .set_0_e => set .i0 (.reg .e)
  | .set_0_h => set .i0 (.reg .h)
  | .set_0_l => set .i0 (.reg .l)
  | .set_0_mhl => set .i0 .mhl
  | .set_0_a => set .i0 (.reg .a)
  | .set_1_b => set .i1 (.reg .b)
  | .set_1_c => set .i1 (.reg .c)
  | .set_1_d => set .i1 (.reg .d)
  | .set_1_e => set .i1 (.reg .e)
  | .set_1_h => set .i1 (.reg .h)
  | .set_1_l => set .i1 (.reg .l)
  | .set_1_mhl => set .i1 .mhl
  | .set_1_a => set .i1 (.reg .a)
  | .set_2_b => set .i2 (.reg .b)
  | .set_2_c => set .i2 (.reg .c)
  | .set_2_d => set .i2 (.reg .d)
  | .set_2_e => set .i2 (.reg .e)
  | .set_2_h => set .i2 (.reg .h)
  | .set_2_l => set .i2 (.reg .l)
  | .set_2_mhl => set .i2 .mhl
  | .set_2_a => set .i2 (.reg .a)
  | .set_3_b => set .i3 (.reg .b)
  | .set_3_c => set .i3 (.reg .c)
  | .set_3_d => set .i3 (.reg .d)
  | .set_3_e => set .i3 (.reg .e)
  | .set_3_h => set .i3 (.reg .h)
  | .set_3_l => set .i3 (.reg .l)
  | .set_3_mhl => set .i3 .mhl
  | .set_3_a => set .i3 (.reg .a)
  | .set_4_b => set .i4 (.reg .b)
  | .set_4_c => set .i4 (.reg .c)
  | .set_4_d => set .i4 (.reg .d)
  | .set_4_e => set .i4 (.reg .e)
  | .set_4_h => set .i4 (.reg .h)
  | .set_4_l => set .i4 (.reg .l)
  | .set_4_mhl => set .i4 .mhl
  | .set_4_a => set .i4 (.reg .a)
  | .set_5_b => set .i5 (.reg .b)
  | .set_5_c => set .i5 (.reg .c)
  | .set_5_d => set .i5 (.reg .d)
  | .set_5_e => set .i5 (.reg .e)
  | .set_5_h => set .i5 (.reg .h)
  | .set_5_l => set .i5 (.reg .l)
  | .set_5_mhl => set .i5 .mhl
  | .set_5_a => set .i5 (.reg .a)
  | .set_6_b => set .i6 (.reg .b)
  | .set_6_c => set .i6 (.reg .c)
  | .set_6_d => set .i6 (.reg .d)
  | .set_6_e => set .i6 (.reg .e)
  | .set_6_h => set .i6 (.reg .h)
  | .set_6_l => set .i6 (.reg .l)
  | .set_6_mhl => set .i6 .mhl
  | .set_6_a => set .i6 (.reg .a)
  | .set_7_b => set .i7 (.reg .b)
  | .set_7_c => set .i7 (.reg .c)
  | .set_7_d => set .i7 (.reg .d)
  | .set_7_e => set .i7 (.reg .e)
  | .set_7_h => set .i7 (.reg .h)
  | .set_7_l => set .i7 (.reg .l)
  | .set_7_mhl => set .i7 .mhl
  | .set_7_a => set .i7 (.reg .a)

/-! What `exec` does on a family. -/

theorem exec_alu (op : AluOp) (x : Operand8) (s : State) : exec (Instr.alu op x) s = aluA op x s := by
  cases op <;> rcases x with (⟨r⟩ | _) | _ <;> (try cases r) <;> rfl

theorem exec_incLoc (x : Loc8) (s : State) : exec (Instr.incLoc x) s = incAt x s := by
  rcases x with ⟨r⟩ | _ <;> (try cases r) <;> rfl

theorem exec_decLoc (x : Loc8) (s : State) : exec (Instr.decLoc x) s = decAt x s := by
  rcases x with ⟨r⟩ | _ <;> (try cases r) <;> rfl

theorem exec_addHl (p : Rp) (s : State) : exec (Instr.addHl p) s = addHlPair p s := by cases p <;> rfl

theorem exec_incPair (p : Rp) (s : State) : exec (Instr.incPair p) s = stepPair p 1#16 s := by cases p <;> rfl

theorem exec_decPair (p : Rp) (s : State) : exec (Instr.decPair p) s = stepPair p 0xFFFF#16 s := by cases p <;> rfl

theorem exec_rot (op : RotOp) (x : Loc8) (s : State) : exec (Instr.rot op x) s = rotAt op x s := by
  cases op <;> rcases x with ⟨r⟩ | _ <;> (try cases r) <;> rfl

theorem exec_bit (n : Index8) (x : Loc8) (s : State) : exec (Instr.bit n x) s = bitAt n x s := by
  cases n <;> rcases x with ⟨r⟩ | _ <;> (try cases r) <;> rfl

theorem exec_res (n : Index8) (x : Loc8) (s : State) : exec (Instr.res n x) s = resAt n x s := by
  cases n <;> rcases x with ⟨r⟩ | _ <;> (try cases r) <;> rfl

theorem exec_set (n : Index8) (x : Loc8) (s : State) : exec (Instr.set n x) s = setAt n x s := by
  cases n <;> rcases x with ⟨r⟩ | _ <;> (try cases r) <;> rfl

theorem exec_ldRegReg (r r' : Reg8) (s : State) : exec (Instr.ldRegReg r r') s = loadReg 4 r (s.reg r') s := by
  cases r <;> cases r' <;> rfl

theorem exec_ldRegD8 (r : Reg8) (v : Byte) (s : State) : exec (Instr.ldRegD8 r v) s = loadReg 8 r v s := by
  cases r <;> rfl

theorem exec_ldRegMhl (r : Reg8) (s : State) : exec (Instr.ldRegMhl r) s = loadReg 8 r (memRead s s.hl) s := by
  cases r <;> rfl

theorem exec_ldMhlReg (r : Reg8) (s : State) : exec (Instr.ldMhlReg r) s = storeAt 8 s.hl (s.reg r) s := by
  cases r <;> rfl

theorem exec_ldPairD16 (p : Rp) (v : Word) (s : State) : exec (Instr.ldPairD16 p v) s = loadPair p v s := by
  cases p <;> rfl

theorem exec_jrCond (cc : Cond) (e : Byte) (s : State) : exec (Instr.jrCond cc e) s = jumpRelIf cc e s := by
  cases cc <;> rfl

theorem exec_jpCond (cc : Cond) (a : Word) (s : State) : exec (Instr.jpCond cc a) s = jumpIf cc a s := by cases cc <;> rfl

theorem exec_callCond (cc : Cond) (a : Word) (s : State) : exec (Instr.callCond cc a) s = callIf cc a s := by
  cases cc <;> rfl

theorem exec_retCond (cc : Cond) (s : State) : exec (Instr.retCond cc) s = returnIf cc s := by cases cc <;> rfl

theorem exec_rst (y : Index8) (s : State) : exec (Instr.rst y) s = restart y s := by cases y <;> rfl

theorem exec_push (p : Rp2) (s : State) : exec (Instr.push p) s = pushPair p s := by cases p <;> rfl

theorem exec_pop (p : Rp2) (s : State) : exec (Instr.pop p) s = popPair p s := by cases p <;> rfl

theorem exec_undefined {i : Instr} {op : Byte} (h : (i, op) ∈ undefinedOpcodes) (s : State) :
    exec i s = undefinedOpcode op s := by
  have each : undefinedOpcodes.Forall fun p => exec p.1 s = undefinedOpcode p.2 s := by
    repeat' first | rfl | apply And.intro
  exact List.forall_iff_forall_mem.1 each _ h

end Sys2Proof.Machine
end

