-- ==== Sys2Proof/Laws/Flags.lean ====
section
/-! SUPPORT. The flag byte and its four flags, and the halves of a word. -/

namespace Sys2Proof.Machine

/-- The two halves of a word, joined again. -/
@[simp] theorem joinBytes_hi_lo (v : Word) : joinBytes (hiByte v) (loByte v) = v := by
  simp only [joinBytes, hiByte, loByte]
  ext i h
  simp only [BitVec.getElem_append, BitVec.getElem_extractLsb']
  split <;> (rw [← BitVec.getLsbD_eq_getElem]; congr 1; omega)

theorem joinBytes_toNat (hi lo : Byte) : (joinBytes hi lo).toNat = hi.toNat * 256 + lo.toNat := by
  simp only [joinBytes, BitVec.toNat_append]
  rw [Nat.shiftLeft_eq, show (2 : Nat) ^ 8 = 256 from rfl, Nat.mul_comm hi.toNat 256, show (256 : Nat) = 2 ^ 8 from rfl,
    ← Nat.two_pow_add_eq_or_of_lt lo.isLt]

theorem hiByte_toNat (v : Word) : (hiByte v).toNat = v.toNat / 256 := by
  have := v.isLt
  simp only [hiByte, BitVec.extractLsb'_toNat, Nat.shiftRight_eq_div_pow]
  omega

theorem loByte_toNat (v : Word) : (loByte v).toNat = v.toNat % 256 := by
  simp only [loByte, BitVec.extractLsb'_toNat, Nat.shiftRight_zero]

@[simp] theorem hiByte_joinBytes (hi lo : Byte) : hiByte (joinBytes hi lo) = hi := by
  apply BitVec.eq_of_toNat_eq
  rw [hiByte_toNat, joinBytes_toNat]
  have := lo.isLt
  omega

@[simp] theorem loByte_joinBytes (hi lo : Byte) : loByte (joinBytes hi lo) = lo := by
  apply BitVec.eq_of_toNat_eq
  rw [loByte_toNat, joinBytes_toNat]
  have := lo.isLt
  omega

@[simp] theorem maskFlags_flagByte (z n h c : Bool) : maskFlags (flagByte z n h c) = flagByte z n h c := by
  cases z <;> cases n <;> cases h <;> cases c <;> rfl

@[simp] theorem flagZ_flagByte (z n h c : Bool) : flagZ (flagByte z n h c) = z := by
  cases z <;> cases n <;> cases h <;> cases c <;> rfl

@[simp] theorem flagN_flagByte (z n h c : Bool) : flagN (flagByte z n h c) = n := by
  cases z <;> cases n <;> cases h <;> cases c <;> rfl

@[simp] theorem flagH_flagByte (z n h c : Bool) : flagH (flagByte z n h c) = h := by
  cases z <;> cases n <;> cases h <;> cases c <;> rfl

@[simp] theorem flagC_flagByte (z n h c : Bool) : flagC (flagByte z n h c) = c := by
  cases z <;> cases n <;> cases h <;> cases c <;> rfl

/-- A masked byte has a zero low nibble (10_state.md R21). -/
@[simp] theorem maskFlags_low (v : Byte) : maskFlags v &&& 0x0F#8 = 0x00#8 := by
  simp [maskFlags, BitVec.and_assoc]

/-- A flag byte in the invariant is not changed by the mask. -/
theorem maskFlags_of_low {v : Byte} (h : v &&& 0x0F#8 = 0x00#8) : maskFlags v = v := by
  revert h; revert v; decide +kernel

/-- The bit `n` of a byte as a number. -/
theorem bitOf_eq (v : Byte) (n : Nat) : bitOf v n = decide (v.toNat / 2 ^ n % 2 = 1) := by
  simp only [bitOf, BitVec.getLsbD, Nat.testBit, Nat.shiftRight_eq_div_pow, Nat.one_and_eq_mod_two]
  rcases Nat.mod_two_eq_zero_or_one (v.toNat / 2 ^ n) with h | h <;> simp [h]

end Sys2Proof.Machine
end

