-- ==== Sys2Proof/Laws/Ops.lean ====
section
/-! SUPPORT. What the shared operations of Machine/Ops.lean do, said once. -/

namespace Sys2Proof.Machine

/-- How a meaning ends. -/
@[simp] theorem complete_eq (n : Nat) (s : State) : complete n s = .next { s with cycles := n } := rfl

/-- A push, as two bus writes and a new SP: the writes do not look at SP. -/
theorem push16_eq (v : Word) (s : State) : push16 v s =
    { memWrite (memWrite s (s.cpu.sp - 1#16) (hiByte v)) (s.cpu.sp - 2#16) (loByte v) with
        cpu := { s.cpu with sp := s.cpu.sp - 2#16 } } := by
  have h2 : s.cpu.sp - 1#16 - 1#16 = s.cpu.sp - 2#16 := by bv_omega
  have h3 := memWrite_setCpu s (s.cpu.sp - 1#16) (hiByte v) { s.cpu with sp := s.cpu.sp - 1#16 }
  unfold push16
  simp only [State.setSp, h3, h2]
  exact memWrite_setCpu (memWrite s (s.cpu.sp - 1#16) (hiByte v)) (s.cpu.sp - 2#16) (loByte v) _

@[simp] theorem push16_sp (v : Word) (s : State) : (push16 v s).cpu.sp = s.cpu.sp - 2#16 := by rw [push16_eq]

/-- A push changes SP and nothing else of the CPU. -/
theorem push16_cpu (v : Word) (s : State) : (push16 v s).cpu = { s.cpu with sp := s.cpu.sp - 2#16 } := by
  rw [push16_eq]

theorem push16_core (v : Word) (s : State) : SameCore s { push16 v s with cpu := s.cpu } := by
  rw [push16_eq]
  have h1 := memWrite_core s (s.cpu.sp - 1#16) (hiByte v)
  have h2 := memWrite_core (memWrite s (s.cpu.sp - 1#16) (hiByte v)) (s.cpu.sp - 2#16) (loByte v)
  exact ⟨rfl, h2.cartType.trans h1.cartType, h2.banks.trans h1.banks, h2.rom.trans h1.rom, h2.boot.trans h1.boot,
    h2.haltBug.trans h1.haltBug, h2.inputs.trans h1.inputs, h2.stepIndex.trans h1.stepIndex, h2.cycles.trans h1.cycles⟩

/-- The whole interrupt entry: the two pushes, then the CPU and IF (49_machine_step.md R282). -/
theorem takeInterrupt_cpu (i : Source) (s : State) : (takeInterrupt i s).cpu =
    { s.cpu with sp := s.cpu.sp - 2#16, pc := i.vector, ime := false, imePending := false } := by
  simp only [takeInterrupt, spend_cpu, State.setPc, push16_cpu]
  rfl

theorem takeInterrupt_cycles (i : Source) (s : State) : (takeInterrupt i s).cycles = 20 := rfl

end Sys2Proof.Machine
end

