-- ==== Sys2Proof/Laws/Effects.lean ====
section
/-! SUPPORT. What an instruction is made of: a chain of register writes, bus writes and a T-cycle count, but for HALT, DI,
EI, RETI and the undefined opcodes, which also touch the CPU's control state. A claim over all instructions needs one
case for each kind of effect, not one for each constructor. -/

namespace Sys2Proof.Machine

/-- The effects that the meanings of Machine/ are composed of. -/
inductive Effects : State → State → Prop where
  | none (s : State) : Effects s s
  | reg {s t : State} (r : Reg8) (v : Byte) (h : Effects s t) : Effects s (t.setReg r v)
  | flags {s t : State} (v : Byte) (h : Effects s t) : Effects s (t.setF v)
  | pair {s t : State} (p : Rp) (v : Word) (h : Effects s t) : Effects s (t.setPair p v)
  | pc {s t : State} (v : Word) (h : Effects s t) : Effects s (t.setPc v)
  | sp {s t : State} (v : Word) (h : Effects s t) : Effects s (t.setSp v)
  | write {s t : State} (a : Word) (v : Byte) (h : Effects s t) : Effects s (memWrite t a v)
  | spend {s t : State} (n : Nat) (h : Effects s t) : Effects s (t.spend n)

theorem Effects.set8 {s t : State} (x : Loc8) (v : Byte) (h : Effects s t) : Effects s (set8 x v t) := by
  cases x
  · exact h.reg _ v
  · exact h.write _ v

theorem Effects.pair2 {s t : State} (p : Rp2) (v : Word) (h : Effects s t) : Effects s (t.setPair2 p v) := by
  cases p
  · exact h.pair .bc v
  · exact h.pair .de v
  · exact h.pair .hl v
  · exact (h.reg .a _).flags _

theorem Effects.push {s t : State} (v : Word) (h : Effects s t) : Effects s (push16 v t) :=
  (((h.sp _).write _ _).sp _).write _ _

theorem Effects.resultA {s t : State} (r : Flagged) (h : Effects s t) : Effects s (t.setResultA r) := (h.reg .a _).flags _

/-- The instructions that touch the CPU's control state. -/
def controlState (i : Instr) : Prop :=
  i = .halt ∨ i = .di ∨ i = .ei ∨ i = .reti ∨ ∃ op, (i, op) ∈ undefinedOpcodes

/-- PREFIX CB with its sub-opcode is one of the four CB families. -/
theorem exec_prefix_cb_cases (cb : Byte) (s : State) :
    (∃ op x, exec (.prefix_cb cb) s = rotAt op x s) ∨ (∃ n x, exec (.prefix_cb cb) s = bitAt n x s)
      ∨ (∃ n x, exec (.prefix_cb cb) s = resAt n x s) ∨ (∃ n x, exec (.prefix_cb cb) s = setAt n x s) := by
  change (∃ op x, exec_prefix_cb cb s = _) ∨ (∃ n x, exec_prefix_cb cb s = _) ∨ (∃ n x, exec_prefix_cb cb s = _)
    ∨ (∃ n x, exec_prefix_cb cb s = _)
  unfold exec_prefix_cb
  dsimp only
  generalize fieldX cb = n
  match n with
  | 0 => exact .inl ⟨_, _, rfl⟩
  | 1 => exact .inr (.inl ⟨_, _, rfl⟩)
  | 2 => exact .inr (.inr (.inl ⟨_, _, rfl⟩))
  | n + 3 => exact .inr (.inr (.inr ⟨_, _, rfl⟩))

theorem next_of_complete {n : Nat} {s t u : State} (hu : Effects s u) (h : complete n u = .next t) : Effects s t := by
  cases h
  exact hu.spend n

/-- Every other instruction is a chain of effects. -/
theorem exec_effects {i : Instr} {s t : State} (h : exec i s = .next t) (hi : ¬controlState i) : Effects s t := by
  have start := Effects.none s
  induction i using instr_families
  case alu op x =>
    rw [exec_alu] at h
    refine next_of_complete ?_ h
    split
    · exact start.flags _
    · exact start.resultA _
  case incLoc x => exact next_of_complete ((start.set8 x _).flags _) (exec_incLoc x s ▸ h)
  case decLoc x => exact next_of_complete ((start.set8 x _).flags _) (exec_decLoc x s ▸ h)
  case addHl p => exact next_of_complete ((start.pair .hl _).flags _) (exec_addHl p s ▸ h)
  case incPair p => exact next_of_complete (start.pair p _) (exec_incPair p s ▸ h)
  case decPair p => exact next_of_complete (start.pair p _) (exec_decPair p s ▸ h)
  case rot op x => exact next_of_complete ((start.set8 x _).flags _) (exec_rot op x s ▸ h)
  case bit n x => exact next_of_complete (start.flags _) (exec_bit n x s ▸ h)
  case res n x => exact next_of_complete (start.set8 x _) (exec_res n x s ▸ h)
  case set n x => exact next_of_complete (start.set8 x _) (exec_set n x s ▸ h)
  case ldRegReg r r' => exact next_of_complete (start.reg r _) (exec_ldRegReg r r' s ▸ h)
  case ldRegD8 r v => exact next_of_complete (start.reg r _) (exec_ldRegD8 r v s ▸ h)
  case ldRegMhl r => exact next_of_complete (start.reg r _) (exec_ldRegMhl r s ▸ h)
  case ldMhlReg r => exact next_of_complete (start.write _ _) (exec_ldMhlReg r s ▸ h)
  case ldPairD16 p v => exact next_of_complete (start.pair p _) (exec_ldPairD16 p v s ▸ h)
  case jrCond cc e =>
    rw [exec_jrCond, jumpRelIf] at h
    split at h
    · exact next_of_complete (start.pc _) h
    · exact next_of_complete start h
  case jpCond cc a =>
    rw [exec_jpCond, jumpIf] at h
    split at h
    · exact next_of_complete (start.pc _) h
    · exact next_of_complete start h
  case callCond cc a =>
    rw [exec_callCond, callIf] at h
    split at h
    · exact next_of_complete ((start.push _).pc _) h
    · exact next_of_complete start h
  case retCond cc =>
    rw [exec_retCond, returnIf] at h
    split at h
    · exact next_of_complete ((start.sp _).pc _) h
    · exact next_of_complete start h
  case rst y => exact next_of_complete ((start.push _).pc _) (exec_rst y s ▸ h)
  case push p => exact next_of_complete (start.push _) (exec_push p s ▸ h)
  case pop p => exact next_of_complete ((start.sp _).pair2 p _) (exec_pop p s ▸ h)
  case undefinedOp hm => exact absurd (.inr (.inr (.inr (.inr ⟨_, hm⟩)))) hi
  case halt' => exact absurd (.inl rfl) hi
  case di' => exact absurd (.inr (.inl rfl)) hi
  case ei' => exact absurd (.inr (.inr (.inl rfl))) hi
  case reti' => exact absurd (.inr (.inr (.inr (.inl rfl)))) hi
  case prefix_cb' cb =>
    obtain ⟨op, x, e⟩ | ⟨n, x, e⟩ | ⟨n, x, e⟩ | ⟨n, x, e⟩ := exec_prefix_cb_cases cb s
    · exact next_of_complete ((start.set8 x _).flags _) (e ▸ h)
    · exact next_of_complete (start.flags _) (e ▸ h)
    · exact next_of_complete (start.set8 x _) (e ▸ h)
    · exact next_of_complete (start.set8 x _) (e ▸ h)
  case rlca' => exact next_of_complete ((start.reg .a _).flags _) h
  case rrca' => exact next_of_complete ((start.reg .a _).flags _) h
  case rla' => exact next_of_complete ((start.reg .a _).flags _) h
  case rra' => exact next_of_complete ((start.reg .a _).flags _) h
  case daa' => exact next_of_complete (start.resultA _) h
  case cpl' => exact next_of_complete (start.resultA _) h
  case scf' => exact next_of_complete (start.flags _) h
  case ccf' => exact next_of_complete (start.flags _) h
  case add_sp_s8' => exact next_of_complete ((start.sp _).flags _) h
  case ld_hl_sp_s8' => exact next_of_complete ((start.pair .hl _).flags _) h
  case nop' => exact next_of_complete start h
  case stop' => exact next_of_complete start h
  case ld_mbc_a' => exact next_of_complete (start.write _ _) h
  case ld_mde_a' => exact next_of_complete (start.write _ _) h
  case ld_mhl_d8' => exact next_of_complete (start.write _ _) h
  case ldh_ma8_a' => exact next_of_complete (start.write _ _) h
  case ld_mc_a' => exact next_of_complete (start.write _ _) h
  case ld_ma16_a' => exact next_of_complete (start.write _ _) h
  case ld_ma16_sp' => exact next_of_complete ((start.write _ _).write _ _) h
  case ld_a_mbc' => exact next_of_complete (start.reg .a _) h
  case ld_a_mde' => exact next_of_complete (start.reg .a _) h
  case ldh_a_ma8' => exact next_of_complete (start.reg .a _) h
  case ld_a_mc' => exact next_of_complete (start.reg .a _) h
  case ld_a_ma16' => exact next_of_complete (start.reg .a _) h
  case ld_mhli_a' => exact next_of_complete ((start.write _ _).pair .hl _) h
  case ld_mhld_a' => exact next_of_complete ((start.write _ _).pair .hl _) h
  case ld_a_mhli' => exact next_of_complete ((start.reg .a _).pair .hl _) h
  case ld_a_mhld' => exact next_of_complete ((start.reg .a _).pair .hl _) h
  case ld_sp_hl' => exact next_of_complete (start.sp _) h
  case jp_a16' => exact next_of_complete (start.pc _) h
  case jp_hl' => exact next_of_complete (start.pc _) h
  case jr_s8' => exact next_of_complete (start.pc _) h
  case call_a16' => exact next_of_complete ((start.push _).pc _) h
  case ret' => exact next_of_complete ((start.sp _).pc _) h

end Sys2Proof.Machine
end

