-- ==== Sys2Proof/Laws/Terms.lean ====
section
/-! SUPPORT. The operations of Machine/ said in the terms of Safety.lean, in which the claims are stated: numbers instead
of bit fields, and the state after a call or a return as one expression. -/

namespace Sys2Proof.Machine

theorem flagByte_eq_flagsOf (z n h c : Bool) : flagByte z n h c = flagsOf z n h c := by
  cases z <;> cases n <;> cases h <;> cases c <;> rfl

@[simp] theorem maskFlags_flagsOf (z n h c : Bool) : maskFlags (flagsOf z n h c) = flagsOf z n h c := by
  cases z <;> cases n <;> cases h <;> cases c <;> rfl

theorem flagC_eq_carryIn (s : State) : flagC s.cpu.f = carryIn s := by simp [flagC, bitOf_eq, carryIn]

theorem flagZ_eq_zeroIn (s : State) : flagZ s.cpu.f = zeroIn s := by simp [flagZ, bitOf_eq, zeroIn]

theorem flagN_eq_subIn (s : State) : flagN s.cpu.f = subIn s := by simp [flagN, bitOf_eq, subIn]

theorem flagH_eq_halfIn (s : State) : flagH s.cpu.f = halfIn s := by simp [flagH, bitOf_eq, halfIn]

/-- The condition of a branch, from the flags as numbers. -/
theorem cond_eq_condHolds (cc : Cond) (s : State) : s.cond cc = condHolds cc s := by
  cases cc <;> simp [State.cond, condHolds, flagZ_eq_zeroIn, flagC_eq_carryIn]

theorem hiByte_eq_ofNat (v : Word) : hiByte v = BitVec.ofNat 8 (v.toNat / 256) := by
  apply BitVec.eq_of_toNat_eq
  rw [hiByte_toNat, BitVec.toNat_ofNat]
  have := v.isLt
  omega

theorem loByte_eq_ofNat (v : Word) : loByte v = BitVec.ofNat 8 (v.toNat % 256) := by
  apply BitVec.eq_of_toNat_eq
  rw [loByte_toNat, BitVec.toNat_ofNat]
  omega

theorem joinBytes_eq_ofNat (hi lo : Byte) : joinBytes hi lo = BitVec.ofNat 16 (hi.toNat * 256 + lo.toNat) := by
  apply BitVec.eq_of_toNat_eq
  rw [joinBytes_toNat, BitVec.toNat_ofNat]
  have := hi.isLt
  have := lo.isLt
  omega

theorem highPage_eq_ofNat (n : Byte) : highPage n = BitVec.ofNat 16 (0xFF00 + n.toNat) := by
  rw [highPage, joinBytes_eq_ofNat]
  rfl

/-- A relative address, as an integer sum. -/
theorem add_sext16 (a : Word) (e : Byte) : a + sext16 e = BitVec.ofInt 16 (a.toNat + signedByte e) := by
  have h1 : sext16 e = BitVec.ofInt 16 (signedByte e) := by revert e; decide +kernel
  have h2 : a = BitVec.ofInt 16 a.toNat := by simp
  conv_lhs => rw [h1, h2]
  rw [← BitVec.ofInt_add]

theorem popValue_eq_stackTop (s : State) : popValue s = stackTop s := joinBytes_eq_ofNat _ _

/-- A push and a jump, as the one state of a call. -/
theorem push16_setPc_spend (s : State) (v pc : Word) (n : Nat) : ((push16 v s).setPc pc).spend n = s.called v pc n := by
  rw [push16_eq, State.called, ← hiByte_eq_ofNat, ← loByte_eq_ofNat]
  rfl

theorem popped_setPc_spend (s : State) (n : Nat) : ((popped s).setPc (popValue s)).spend n = s.returned n := by
  rw [popValue_eq_stackTop]
  rfl

theorem locCycles_eq (x : Loc8) (register memory : Nat) : locCycles x register memory = if x = .mhl then memory else register := by
  cases x <;> simp [locCycles]

end Sys2Proof.Machine
end

