-- ==== Sys2Proof/Tests/Slice0.lean ====
section
/-! SUPPORT. The model's own tests: what the well-formedness check refuses, every constructor's decoding from the bytes of
spec/opcode_table.json, vectors of spec 95_test_vectors.md (derived there from the rules of the spec), one step each, and
for every statement that has hypotheses a witness that meets them all. -/

namespace Sys2Proof.Tests

open Sys2Proof.Machine

/-! One theorem is checked at a time: many small evaluations at once would want many threads. -/

set_option Elab.async false

/-! Helpers. -/

/-- Does the step answer a next state of which `p` holds? -/
def after (r : Result) (p : State → Bool) : Bool :=
  match r with
  | .next t => p t
  | .fault _ => false
  | .refused _ => false

theorem next_of_after {r : Result} {p : State → Bool} (h : after r p = true) : ∃ t, r = .next t ∧ p t = true := by
  cases r with
  | next t => exact ⟨t, rfl, h⟩
  | fault f => cases f
  | refused _ => cases h

/-- A property of a list of addresses, from its evaluation. -/
theorem forall_of_all {l : List Word} {p : Word → Bool} (h : l.all p = true) : ∀ a ∈ l, p a = true := List.all_eq_true.1 h

/-- Bytes placed from PC on. -/
def withCode (bytes : List Byte) (s : State) : State :=
  (bytes.zipIdx).foldl (fun t b => placeByte t (t.cpu.pc + BitVec.ofNat 16 b.2) b.1) s

/-- The skip-boot state with A, F, B, C, D, E, H, L zero: the start state of the single-instruction vectors. -/
def vectorState : State :=
  { State.reset with cpu := { State.reset.cpu with a := 0, f := 0, b := 0, c := 0, d := 0, e := 0, h := 0, l := 0 } }

/-- A single-instruction vector: the bytes, what is set before, what holds after one step. -/
def vector (bytes : List Byte) (before : State → State) (ok : State → Bool) : Bool :=
  after (step (withCode bytes (before vectorState))) ok

/-- The start state with IE, IF and IME set. -/
def withInterrupts (ie : Byte) (flags : BitVec 5) (ime : Bool) (s : State) : State :=
  { s with intr := ⟨ie, flags⟩, cpu := { s.cpu with ime := ime } }

/-- The start state with an MBC3 cartridge of four banks. -/
def mbc3State : State := { vectorState with cart := { vectorState.cart with cartType := .mbc3, banks := 4 } }

/-- The start state with the LCD off. -/
def lcdOffState : State := memWrite vectorState 0xFF40#16 0x11#8

/-- The PPU of the start state at a position and in the mode of that position. -/
def atDot (ly lx : Nat) (s : State) : State :=
  { s with ppu := { s.ppu with ly := ly, lx := lx, mode := modeAt ly lx } }

/-! Well-formedness (30_encoding.md R118, R124). -/

/-- PREFIX_CB is no instruction of its own: its bytes are those of a CB instruction. -/
theorem test_wellFormed_refuses_prefix : (Instr.prefix_cb 0x00#8).wellFormed = false := rfl

theorem test_wellFormed_refuses_prefix_last : (Instr.prefix_cb 0xFF#8).wellFormed = false := rfl

theorem test_wellFormed_accepts_cb : (Instr.set_7_a).wellFormed = true := rfl

/-! Decoding. -/

/-- The base opcodes 0x00 to 0x0F (30_encoding.md R119 to R122). -/
theorem test_decode_base_0 : ([0x00#8, 0x01#8, 0x02#8, 0x03#8, 0x04#8, 0x05#8, 0x06#8, 0x07#8, 0x08#8, 0x09#8, 0x0A#8,
    0x0B#8, 0x0C#8, 0x0D#8, 0x0E#8, 0x0F#8].map fun op => decodeAt op 0xA5#8 0x5A#8) = [.nop, .ld_bc_d16 0x5AA5#16,
    .ld_mbc_a, .inc_bc, .inc_b, .dec_b, .ld_b_d8 0xA5#8, .rlca, .ld_ma16_sp 0x5AA5#16, .add_hl_bc, .ld_a_mbc, .dec_bc,
    .inc_c, .dec_c, .ld_c_d8 0xA5#8, .rrca] := by decide +kernel

/-- The base opcodes 0x10 to 0x1F (30_encoding.md R119 to R122). -/
theorem test_decode_base_1 : ([0x10#8, 0x11#8, 0x12#8, 0x13#8, 0x14#8, 0x15#8, 0x16#8, 0x17#8, 0x18#8, 0x19#8, 0x1A#8,
    0x1B#8, 0x1C#8, 0x1D#8, 0x1E#8, 0x1F#8].map fun op => decodeAt op 0xA5#8 0x5A#8) = [.stop 0xA5#8, .ld_de_d16
    0x5AA5#16, .ld_mde_a, .inc_de, .inc_d, .dec_d, .ld_d_d8 0xA5#8, .rla, .jr_s8 0xA5#8, .add_hl_de, .ld_a_mde,
    .dec_de, .inc_e, .dec_e, .ld_e_d8 0xA5#8, .rra] := by decide +kernel

/-- The base opcodes 0x20 to 0x2F (30_encoding.md R119 to R122). -/
theorem test_decode_base_2 : ([0x20#8, 0x21#8, 0x22#8, 0x23#8, 0x24#8, 0x25#8, 0x26#8, 0x27#8, 0x28#8, 0x29#8, 0x2A#8,
    0x2B#8, 0x2C#8, 0x2D#8, 0x2E#8, 0x2F#8].map fun op => decodeAt op 0xA5#8 0x5A#8) = [.jr_nz_s8 0xA5#8, .ld_hl_d16
    0x5AA5#16, .ld_mhli_a, .inc_hl, .inc_h, .dec_h, .ld_h_d8 0xA5#8, .daa, .jr_z_s8 0xA5#8, .add_hl_hl, .ld_a_mhli,
    .dec_hl, .inc_l, .dec_l, .ld_l_d8 0xA5#8, .cpl] := by decide +kernel

/-- The base opcodes 0x30 to 0x3F (30_encoding.md R119 to R122). -/
theorem test_decode_base_3 : ([0x30#8, 0x31#8, 0x32#8, 0x33#8, 0x34#8, 0x35#8, 0x36#8, 0x37#8, 0x38#8, 0x39#8, 0x3A#8,
    0x3B#8, 0x3C#8, 0x3D#8, 0x3E#8, 0x3F#8].map fun op => decodeAt op 0xA5#8 0x5A#8) = [.jr_nc_s8 0xA5#8, .ld_sp_d16
    0x5AA5#16, .ld_mhld_a, .inc_sp, .inc_mhl, .dec_mhl, .ld_mhl_d8 0xA5#8, .scf, .jr_c_s8 0xA5#8, .add_hl_sp,
    .ld_a_mhld, .dec_sp, .inc_a, .dec_a, .ld_a_d8 0xA5#8, .ccf] := by decide +kernel

/-- The base opcodes 0x40 to 0x4F (30_encoding.md R119 to R122). -/
theorem test_decode_base_4 : ([0x40#8, 0x41#8, 0x42#8, 0x43#8, 0x44#8, 0x45#8, 0x46#8, 0x47#8, 0x48#8, 0x49#8, 0x4A#8,
    0x4B#8, 0x4C#8, 0x4D#8, 0x4E#8, 0x4F#8].map fun op => decodeAt op 0xA5#8 0x5A#8) = [.ld_b_b, .ld_b_c, .ld_b_d,
    .ld_b_e, .ld_b_h, .ld_b_l, .ld_b_mhl, .ld_b_a, .ld_c_b, .ld_c_c, .ld_c_d, .ld_c_e, .ld_c_h, .ld_c_l, .ld_c_mhl,
    .ld_c_a] := by decide +kernel

/-- The base opcodes 0x50 to 0x5F (30_encoding.md R119 to R122). -/
theorem test_decode_base_5 : ([0x50#8, 0x51#8, 0x52#8, 0x53#8, 0x54#8, 0x55#8, 0x56#8, 0x57#8, 0x58#8, 0x59#8, 0x5A#8,
    0x5B#8, 0x5C#8, 0x5D#8, 0x5E#8, 0x5F#8].map fun op => decodeAt op 0xA5#8 0x5A#8) = [.ld_d_b, .ld_d_c, .ld_d_d,
    .ld_d_e, .ld_d_h, .ld_d_l, .ld_d_mhl, .ld_d_a, .ld_e_b, .ld_e_c, .ld_e_d, .ld_e_e, .ld_e_h, .ld_e_l, .ld_e_mhl,
    .ld_e_a] := by decide +kernel

/-- The base opcodes 0x60 to 0x6F (30_encoding.md R119 to R122). -/
theorem test_decode_base_6 : ([0x60#8, 0x61#8, 0x62#8, 0x63#8, 0x64#8, 0x65#8, 0x66#8, 0x67#8, 0x68#8, 0x69#8, 0x6A#8,
    0x6B#8, 0x6C#8, 0x6D#8, 0x6E#8, 0x6F#8].map fun op => decodeAt op 0xA5#8 0x5A#8) = [.ld_h_b, .ld_h_c, .ld_h_d,
    .ld_h_e, .ld_h_h, .ld_h_l, .ld_h_mhl, .ld_h_a, .ld_l_b, .ld_l_c, .ld_l_d, .ld_l_e, .ld_l_h, .ld_l_l, .ld_l_mhl,
    .ld_l_a] := by decide +kernel

/-- The base opcodes 0x70 to 0x7F (30_encoding.md R119 to R122). -/
theorem test_decode_base_7 : ([0x70#8, 0x71#8, 0x72#8, 0x73#8, 0x74#8, 0x75#8, 0x76#8, 0x77#8, 0x78#8, 0x79#8, 0x7A#8,
    0x7B#8, 0x7C#8, 0x7D#8, 0x7E#8, 0x7F#8].map fun op => decodeAt op 0xA5#8 0x5A#8) = [.ld_mhl_b, .ld_mhl_c,
    .ld_mhl_d, .ld_mhl_e, .ld_mhl_h, .ld_mhl_l, .halt, .ld_mhl_a, .ld_a_b, .ld_a_c, .ld_a_d, .ld_a_e, .ld_a_h,
    .ld_a_l, .ld_a_mhl, .ld_a_a] := by decide +kernel

/-- The base opcodes 0x80 to 0x8F (30_encoding.md R119 to R122). -/
theorem test_decode_base_8 : ([0x80#8, 0x81#8, 0x82#8, 0x83#8, 0x84#8, 0x85#8, 0x86#8, 0x87#8, 0x88#8, 0x89#8, 0x8A#8,
    0x8B#8, 0x8C#8, 0x8D#8, 0x8E#8, 0x8F#8].map fun op => decodeAt op 0xA5#8 0x5A#8) = [.add_a_b, .add_a_c, .add_a_d,
    .add_a_e, .add_a_h, .add_a_l, .add_a_mhl, .add_a_a, .adc_a_b, .adc_a_c, .adc_a_d, .adc_a_e, .adc_a_h, .adc_a_l,
    .adc_a_mhl, .adc_a_a] := by decide +kernel

/-- The base opcodes 0x90 to 0x9F (30_encoding.md R119 to R122). -/
theorem test_decode_base_9 : ([0x90#8, 0x91#8, 0x92#8, 0x93#8, 0x94#8, 0x95#8, 0x96#8, 0x97#8, 0x98#8, 0x99#8, 0x9A#8,
    0x9B#8, 0x9C#8, 0x9D#8, 0x9E#8, 0x9F#8].map fun op => decodeAt op 0xA5#8 0x5A#8) = [.sub_b, .sub_c, .sub_d,
    .sub_e, .sub_h, .sub_l, .sub_mhl, .sub_a, .sbc_a_b, .sbc_a_c, .sbc_a_d, .sbc_a_e, .sbc_a_h, .sbc_a_l, .sbc_a_mhl,
    .sbc_a_a] := by decide +kernel

/-- The base opcodes 0xA0 to 0xAF (30_encoding.md R119 to R122). -/
theorem test_decode_base_a : ([0xA0#8, 0xA1#8, 0xA2#8, 0xA3#8, 0xA4#8, 0xA5#8, 0xA6#8, 0xA7#8, 0xA8#8, 0xA9#8, 0xAA#8,
    0xAB#8, 0xAC#8, 0xAD#8, 0xAE#8, 0xAF#8].map fun op => decodeAt op 0xA5#8 0x5A#8) = [.and_b, .and_c, .and_d,
    .and_e, .and_h, .and_l, .and_mhl, .and_a, .xor_b, .xor_c, .xor_d, .xor_e, .xor_h, .xor_l, .xor_mhl, .xor_a]
    := by decide +kernel

/-- The base opcodes 0xB0 to 0xBF (30_encoding.md R119 to R122). -/
theorem test_decode_base_b : ([0xB0#8, 0xB1#8, 0xB2#8, 0xB3#8, 0xB4#8, 0xB5#8, 0xB6#8, 0xB7#8, 0xB8#8, 0xB9#8, 0xBA#8,
    0xBB#8, 0xBC#8, 0xBD#8, 0xBE#8, 0xBF#8].map fun op => decodeAt op 0xA5#8 0x5A#8) = [.or_b, .or_c, .or_d, .or_e,
    .or_h, .or_l, .or_mhl, .or_a, .cp_b, .cp_c, .cp_d, .cp_e, .cp_h, .cp_l, .cp_mhl, .cp_a] := by decide +kernel

/-- The base opcodes 0xC0 to 0xCF (30_encoding.md R119 to R122). 0xCB is the prefix: with 0xA5 after it, RES 4,L (R124). -/
theorem test_decode_base_c : ([0xC0#8, 0xC1#8, 0xC2#8, 0xC3#8, 0xC4#8, 0xC5#8, 0xC6#8, 0xC7#8, 0xC8#8, 0xC9#8, 0xCA#8,
    0xCB#8, 0xCC#8, 0xCD#8, 0xCE#8, 0xCF#8].map fun op => decodeAt op 0xA5#8 0x5A#8) = [.ret_nz, .pop_bc, .jp_nz_a16
    0x5AA5#16, .jp_a16 0x5AA5#16, .call_nz_a16 0x5AA5#16, .push_bc, .add_a_d8 0xA5#8, .rst_00, .ret_z, .ret, .jp_z_a16
    0x5AA5#16, .res_4_l, .call_z_a16 0x5AA5#16, .call_a16 0x5AA5#16, .adc_a_d8 0xA5#8, .rst_08] := by decide +kernel

/-- The base opcodes 0xD0 to 0xDF (30_encoding.md R119 to R122). -/
theorem test_decode_base_d : ([0xD0#8, 0xD1#8, 0xD2#8, 0xD3#8, 0xD4#8, 0xD5#8, 0xD6#8, 0xD7#8, 0xD8#8, 0xD9#8, 0xDA#8,
    0xDB#8, 0xDC#8, 0xDD#8, 0xDE#8, 0xDF#8].map fun op => decodeAt op 0xA5#8 0x5A#8) = [.ret_nc, .pop_de, .jp_nc_a16
    0x5AA5#16, .illegal_d3, .call_nc_a16 0x5AA5#16, .push_de, .sub_d8 0xA5#8, .rst_10, .ret_c, .reti, .jp_c_a16
    0x5AA5#16, .illegal_db, .call_c_a16 0x5AA5#16, .illegal_dd, .sbc_a_d8 0xA5#8, .rst_18] := by decide +kernel

/-- The base opcodes 0xE0 to 0xEF (30_encoding.md R119 to R122). -/
theorem test_decode_base_e : ([0xE0#8, 0xE1#8, 0xE2#8, 0xE3#8, 0xE4#8, 0xE5#8, 0xE6#8, 0xE7#8, 0xE8#8, 0xE9#8, 0xEA#8,
    0xEB#8, 0xEC#8, 0xED#8, 0xEE#8, 0xEF#8].map fun op => decodeAt op 0xA5#8 0x5A#8) = [.ldh_ma8_a 0xA5#8, .pop_hl,
    .ld_mc_a, .illegal_e3, .illegal_e4, .push_hl, .and_d8 0xA5#8, .rst_20, .add_sp_s8 0xA5#8, .jp_hl, .ld_ma16_a
    0x5AA5#16, .illegal_eb, .illegal_ec, .illegal_ed, .xor_d8 0xA5#8, .rst_28] := by decide +kernel

/-- The base opcodes 0xF0 to 0xFF (30_encoding.md R119 to R122). -/
theorem test_decode_base_f : ([0xF0#8, 0xF1#8, 0xF2#8, 0xF3#8, 0xF4#8, 0xF5#8, 0xF6#8, 0xF7#8, 0xF8#8, 0xF9#8, 0xFA#8,
    0xFB#8, 0xFC#8, 0xFD#8, 0xFE#8, 0xFF#8].map fun op => decodeAt op 0xA5#8 0x5A#8) = [.ldh_a_ma8 0xA5#8, .pop_af,
    .ld_a_mc, .di, .illegal_f4, .push_af, .or_d8 0xA5#8, .rst_30, .ld_hl_sp_s8 0xA5#8, .ld_sp_hl, .ld_a_ma16
    0x5AA5#16, .ei, .illegal_fc, .illegal_fd, .cp_d8 0xA5#8, .rst_38] := by decide +kernel

/-- The CB sub-opcodes 0x00 to 0x0F (30_encoding.md R124). -/
theorem test_decode_cb_0 : ([0x00#8, 0x01#8, 0x02#8, 0x03#8, 0x04#8, 0x05#8, 0x06#8, 0x07#8, 0x08#8, 0x09#8, 0x0A#8,
    0x0B#8, 0x0C#8, 0x0D#8, 0x0E#8, 0x0F#8].map fun op => decodeAt 0xCB#8 op 0x5A#8) = [.rlc_b, .rlc_c, .rlc_d,
    .rlc_e, .rlc_h, .rlc_l, .rlc_mhl, .rlc_a, .rrc_b, .rrc_c, .rrc_d, .rrc_e, .rrc_h, .rrc_l, .rrc_mhl, .rrc_a]
    := by decide +kernel

/-- The CB sub-opcodes 0x10 to 0x1F (30_encoding.md R124). -/
theorem test_decode_cb_1 : ([0x10#8, 0x11#8, 0x12#8, 0x13#8, 0x14#8, 0x15#8, 0x16#8, 0x17#8, 0x18#8, 0x19#8, 0x1A#8,
    0x1B#8, 0x1C#8, 0x1D#8, 0x1E#8, 0x1F#8].map fun op => decodeAt 0xCB#8 op 0x5A#8) = [.rl_b, .rl_c, .rl_d, .rl_e,
    .rl_h, .rl_l, .rl_mhl, .rl_a, .rr_b, .rr_c, .rr_d, .rr_e, .rr_h, .rr_l, .rr_mhl, .rr_a] := by decide +kernel

/-- The CB sub-opcodes 0x20 to 0x2F (30_encoding.md R124). -/
theorem test_decode_cb_2 : ([0x20#8, 0x21#8, 0x22#8, 0x23#8, 0x24#8, 0x25#8, 0x26#8, 0x27#8, 0x28#8, 0x29#8, 0x2A#8,
    0x2B#8, 0x2C#8, 0x2D#8, 0x2E#8, 0x2F#8].map fun op => decodeAt 0xCB#8 op 0x5A#8) = [.sla_b, .sla_c, .sla_d,
    .sla_e, .sla_h, .sla_l, .sla_mhl, .sla_a, .sra_b, .sra_c, .sra_d, .sra_e, .sra_h, .sra_l, .sra_mhl, .sra_a]
    := by decide +kernel

/-- The CB sub-opcodes 0x30 to 0x3F (30_encoding.md R124). -/
theorem test_decode_cb_3 : ([0x30#8, 0x31#8, 0x32#8, 0x33#8, 0x34#8, 0x35#8, 0x36#8, 0x37#8, 0x38#8, 0x39#8, 0x3A#8,
    0x3B#8, 0x3C#8, 0x3D#8, 0x3E#8, 0x3F#8].map fun op => decodeAt 0xCB#8 op 0x5A#8) = [.swap_b, .swap_c, .swap_d,
    .swap_e, .swap_h, .swap_l, .swap_mhl, .swap_a, .srl_b, .srl_c, .srl_d, .srl_e, .srl_h, .srl_l, .srl_mhl, .srl_a]
    := by decide +kernel

/-- The CB sub-opcodes 0x40 to 0x4F (30_encoding.md R124). -/
theorem test_decode_cb_4 : ([0x40#8, 0x41#8, 0x42#8, 0x43#8, 0x44#8, 0x45#8, 0x46#8, 0x47#8, 0x48#8, 0x49#8, 0x4A#8,
    0x4B#8, 0x4C#8, 0x4D#8, 0x4E#8, 0x4F#8].map fun op => decodeAt 0xCB#8 op 0x5A#8) = [.bit_0_b, .bit_0_c, .bit_0_d,
    .bit_0_e, .bit_0_h, .bit_0_l, .bit_0_mhl, .bit_0_a, .bit_1_b, .bit_1_c, .bit_1_d, .bit_1_e, .bit_1_h, .bit_1_l,
    .bit_1_mhl, .bit_1_a] := by decide +kernel

/-- The CB sub-opcodes 0x50 to 0x5F (30_encoding.md R124). -/
theorem test_decode_cb_5 : ([0x50#8, 0x51#8, 0x52#8, 0x53#8, 0x54#8, 0x55#8, 0x56#8, 0x57#8, 0x58#8, 0x59#8, 0x5A#8,
    0x5B#8, 0x5C#8, 0x5D#8, 0x5E#8, 0x5F#8].map fun op => decodeAt 0xCB#8 op 0x5A#8) = [.bit_2_b, .bit_2_c, .bit_2_d,
    .bit_2_e, .bit_2_h, .bit_2_l, .bit_2_mhl, .bit_2_a, .bit_3_b, .bit_3_c, .bit_3_d, .bit_3_e, .bit_3_h, .bit_3_l,
    .bit_3_mhl, .bit_3_a] := by decide +kernel

/-- The CB sub-opcodes 0x60 to 0x6F (30_encoding.md R124). -/
theorem test_decode_cb_6 : ([0x60#8, 0x61#8, 0x62#8, 0x63#8, 0x64#8, 0x65#8, 0x66#8, 0x67#8, 0x68#8, 0x69#8, 0x6A#8,
    0x6B#8, 0x6C#8, 0x6D#8, 0x6E#8, 0x6F#8].map fun op => decodeAt 0xCB#8 op 0x5A#8) = [.bit_4_b, .bit_4_c, .bit_4_d,
    .bit_4_e, .bit_4_h, .bit_4_l, .bit_4_mhl, .bit_4_a, .bit_5_b, .bit_5_c, .bit_5_d, .bit_5_e, .bit_5_h, .bit_5_l,
    .bit_5_mhl, .bit_5_a] := by decide +kernel

/-- The CB sub-opcodes 0x70 to 0x7F (30_encoding.md R124). -/
theorem test_decode_cb_7 : ([0x70#8, 0x71#8, 0x72#8, 0x73#8, 0x74#8, 0x75#8, 0x76#8, 0x77#8, 0x78#8, 0x79#8, 0x7A#8,
    0x7B#8, 0x7C#8, 0x7D#8, 0x7E#8, 0x7F#8].map fun op => decodeAt 0xCB#8 op 0x5A#8) = [.bit_6_b, .bit_6_c, .bit_6_d,
    .bit_6_e, .bit_6_h, .bit_6_l, .bit_6_mhl, .bit_6_a, .bit_7_b, .bit_7_c, .bit_7_d, .bit_7_e, .bit_7_h, .bit_7_l,
    .bit_7_mhl, .bit_7_a] := by decide +kernel

/-- The CB sub-opcodes 0x80 to 0x8F (30_encoding.md R124). -/
theorem test_decode_cb_8 : ([0x80#8, 0x81#8, 0x82#8, 0x83#8, 0x84#8, 0x85#8, 0x86#8, 0x87#8, 0x88#8, 0x89#8, 0x8A#8,
    0x8B#8, 0x8C#8, 0x8D#8, 0x8E#8, 0x8F#8].map fun op => decodeAt 0xCB#8 op 0x5A#8) = [.res_0_b, .res_0_c, .res_0_d,
    .res_0_e, .res_0_h, .res_0_l, .res_0_mhl, .res_0_a, .res_1_b, .res_1_c, .res_1_d, .res_1_e, .res_1_h, .res_1_l,
    .res_1_mhl, .res_1_a] := by decide +kernel

/-- The CB sub-opcodes 0x90 to 0x9F (30_encoding.md R124). -/
theorem test_decode_cb_9 : ([0x90#8, 0x91#8, 0x92#8, 0x93#8, 0x94#8, 0x95#8, 0x96#8, 0x97#8, 0x98#8, 0x99#8, 0x9A#8,
    0x9B#8, 0x9C#8, 0x9D#8, 0x9E#8, 0x9F#8].map fun op => decodeAt 0xCB#8 op 0x5A#8) = [.res_2_b, .res_2_c, .res_2_d,
    .res_2_e, .res_2_h, .res_2_l, .res_2_mhl, .res_2_a, .res_3_b, .res_3_c, .res_3_d, .res_3_e, .res_3_h, .res_3_l,
    .res_3_mhl, .res_3_a] := by decide +kernel

/-- The CB sub-opcodes 0xA0 to 0xAF (30_encoding.md R124). -/
theorem test_decode_cb_a : ([0xA0#8, 0xA1#8, 0xA2#8, 0xA3#8, 0xA4#8, 0xA5#8, 0xA6#8, 0xA7#8, 0xA8#8, 0xA9#8, 0xAA#8,
    0xAB#8, 0xAC#8, 0xAD#8, 0xAE#8, 0xAF#8].map fun op => decodeAt 0xCB#8 op 0x5A#8) = [.res_4_b, .res_4_c, .res_4_d,
    .res_4_e, .res_4_h, .res_4_l, .res_4_mhl, .res_4_a, .res_5_b, .res_5_c, .res_5_d, .res_5_e, .res_5_h, .res_5_l,
    .res_5_mhl, .res_5_a] := by decide +kernel

/-- The CB sub-opcodes 0xB0 to 0xBF (30_encoding.md R124). -/
theorem test_decode_cb_b : ([0xB0#8, 0xB1#8, 0xB2#8, 0xB3#8, 0xB4#8, 0xB5#8, 0xB6#8, 0xB7#8, 0xB8#8, 0xB9#8, 0xBA#8,
    0xBB#8, 0xBC#8, 0xBD#8, 0xBE#8, 0xBF#8].map fun op => decodeAt 0xCB#8 op 0x5A#8) = [.res_6_b, .res_6_c, .res_6_d,
    .res_6_e, .res_6_h, .res_6_l, .res_6_mhl, .res_6_a, .res_7_b, .res_7_c, .res_7_d, .res_7_e, .res_7_h, .res_7_l,
    .res_7_mhl, .res_7_a] := by decide +kernel

/-- The CB sub-opcodes 0xC0 to 0xCF (30_encoding.md R124). -/
theorem test_decode_cb_c : ([0xC0#8, 0xC1#8, 0xC2#8, 0xC3#8, 0xC4#8, 0xC5#8, 0xC6#8, 0xC7#8, 0xC8#8, 0xC9#8, 0xCA#8,
    0xCB#8, 0xCC#8, 0xCD#8, 0xCE#8, 0xCF#8].map fun op => decodeAt 0xCB#8 op 0x5A#8) = [.set_0_b, .set_0_c, .set_0_d,
    .set_0_e, .set_0_h, .set_0_l, .set_0_mhl, .set_0_a, .set_1_b, .set_1_c, .set_1_d, .set_1_e, .set_1_h, .set_1_l,
    .set_1_mhl, .set_1_a] := by decide +kernel

/-- The CB sub-opcodes 0xD0 to 0xDF (30_encoding.md R124). -/
theorem test_decode_cb_d : ([0xD0#8, 0xD1#8, 0xD2#8, 0xD3#8, 0xD4#8, 0xD5#8, 0xD6#8, 0xD7#8, 0xD8#8, 0xD9#8, 0xDA#8,
    0xDB#8, 0xDC#8, 0xDD#8, 0xDE#8, 0xDF#8].map fun op => decodeAt 0xCB#8 op 0x5A#8) = [.set_2_b, .set_2_c, .set_2_d,
    .set_2_e, .set_2_h, .set_2_l, .set_2_mhl, .set_2_a, .set_3_b, .set_3_c, .set_3_d, .set_3_e, .set_3_h, .set_3_l,
    .set_3_mhl, .set_3_a] := by decide +kernel

/-- The CB sub-opcodes 0xE0 to 0xEF (30_encoding.md R124). -/
theorem test_decode_cb_e : ([0xE0#8, 0xE1#8, 0xE2#8, 0xE3#8, 0xE4#8, 0xE5#8, 0xE6#8, 0xE7#8, 0xE8#8, 0xE9#8, 0xEA#8,
    0xEB#8, 0xEC#8, 0xED#8, 0xEE#8, 0xEF#8].map fun op => decodeAt 0xCB#8 op 0x5A#8) = [.set_4_b, .set_4_c, .set_4_d,
    .set_4_e, .set_4_h, .set_4_l, .set_4_mhl, .set_4_a, .set_5_b, .set_5_c, .set_5_d, .set_5_e, .set_5_h, .set_5_l,
    .set_5_mhl, .set_5_a] := by decide +kernel

/-- The CB sub-opcodes 0xF0 to 0xFF (30_encoding.md R124). -/
theorem test_decode_cb_f : ([0xF0#8, 0xF1#8, 0xF2#8, 0xF3#8, 0xF4#8, 0xF5#8, 0xF6#8, 0xF7#8, 0xF8#8, 0xF9#8, 0xFA#8,
    0xFB#8, 0xFC#8, 0xFD#8, 0xFE#8, 0xFF#8].map fun op => decodeAt 0xCB#8 op 0x5A#8) = [.set_6_b, .set_6_c, .set_6_d,
    .set_6_e, .set_6_h, .set_6_l, .set_6_mhl, .set_6_a, .set_7_b, .set_7_c, .set_7_d, .set_7_e, .set_7_h, .set_7_l,
    .set_7_mhl, .set_7_a] := by decide +kernel

/-- Bit by bit: `ADD A,B` is `0b10 000 000` (40_alu8.md R142), `LD B,C` is `0b01 000 001` (43_load.md R200). -/
theorem test_decode_bits_add_ld : decodeAt 0b10000000#8 0#8 0#8 = .add_a_b ∧ decodeAt 0b01000001#8 0#8 0#8 = .ld_b_c := by
  decide

/-- Bit by bit: `INC (HL)` is `0b00 110 100` (40_alu8.md R143), `RST 0x28` is `0b11 101 111` (44_control_stack.md R253). -/
theorem test_decode_bits_inc_rst : decodeAt 0b00110100#8 0#8 0#8 = .inc_mhl ∧ decodeAt 0b11101111#8 0#8 0#8 = .rst_28 := by
  decide

/-- Bit by bit: `BIT 7,(HL)` is 0xCB, `0b01 111 110` (42_rotate_shift_bit.md R193). -/
theorem test_decode_bits_bit : decodeAt 0b11001011#8 0b01111110#8 0#8 = .bit_7_mhl := by decide

/-- No bytes, and an instruction cut short, are no instruction. -/
theorem test_decode_rejects_empty : decode [] = .error .noOpcode := rfl

theorem test_decode_rejects_truncated : decode [0xC3#8, 0x00#8] = .error .truncated := rfl

/-- The table's numbering: a CB row has 16 bits, the prefix in the high byte (opcode_table.json "match"). -/
theorem test_tableWord_cb : decodeTableWord 16 0xCB37 = some .swap_a := by decide

/-- A base row has 8 bits; the bytes of its operand are zero. -/
theorem test_tableWord_base : decodeTableWord 8 0xC3 = some (.jp_a16 0x0000#16) := by decide

/-- The step after reset fetches and runs the placed instruction: `LD BC,0x0000`. -/
theorem test_withFetchWord : after (step (State.reset.withFetchWord 8 0x01)) (fun t =>
    t.bc == 0x0000#16 && t.cpu.pc == 0x0103#16 && t.cycles == 12) = true := by decide +kernel

/-! Single instructions (95_test_vectors.md, sections 2.1 to 2.6). -/

/-- ADD A,B (95_test_vectors.md A1). -/
theorem test_add_a_b_a1 : vector [0x80#8] (fun s => ((s.setReg .a 0x3A#8).setReg .b 0xC6#8).setF 0x00#8) (fun t =>
    t.cpu.a == 0x00#8 && t.cpu.f == 0xB0#8 && t.cpu.pc == 0x0101#16 && t.cycles == 4) = true := by decide +kernel

/-- ADD A,B (95_test_vectors.md A2). -/
theorem test_add_a_b_a2 : vector [0x80#8] (fun s => ((s.setReg .a 0x0F#8).setReg .b 0x01#8).setF 0x00#8) (fun t =>
    t.cpu.a == 0x10#8 && t.cpu.f == 0x20#8 && t.cpu.pc == 0x0101#16 && t.cycles == 4) = true := by decide +kernel

/-- ADD A,(HL) (95_test_vectors.md A5). -/
theorem test_add_a_mhl_a5 : vector [0x86#8] (fun s => (placeByte (((s.setReg .a 0x3C#8).setReg .h 0xC0#8).setReg .l
    0x00#8) 0xC000#16 0x12#8).setF 0x00#8) (fun t => t.cpu.a == 0x4E#8 && t.cpu.f == 0x00#8 && memRead t 0xC000#16 ==
    0x12#8 && t.cpu.pc == 0x0101#16 && t.cycles == 8) = true := by decide +kernel

/-- ADD A,d8 (95_test_vectors.md A6). -/
theorem test_add_a_d8_a6 : vector [0xC6#8, 0xFF#8] (fun s => (s.setReg .a 0x3C#8).setF 0x00#8) (fun t => t.cpu.a ==
    0x3B#8 && t.cpu.f == 0x30#8 && t.cpu.pc == 0x0102#16 && t.cycles == 8) = true := by decide +kernel

/-- ADC A,E (95_test_vectors.md A7). -/
theorem test_adc_a_e_a7 : vector [0x8B#8] (fun s => ((s.setReg .a 0xE1#8).setReg .e 0x0F#8).setF 0x10#8) (fun t =>
    t.cpu.a == 0xF1#8 && t.cpu.f == 0x20#8 && t.cpu.pc == 0x0101#16 && t.cycles == 4) = true := by decide +kernel

/-- ADC A,d8 (95_test_vectors.md A8). -/
theorem test_adc_a_d8_a8 : vector [0xCE#8, 0x00#8] (fun s => (s.setReg .a 0xFF#8).setF 0x10#8) (fun t => t.cpu.a ==
    0x00#8 && t.cpu.f == 0xB0#8 && t.cpu.pc == 0x0102#16 && t.cycles == 8) = true := by decide +kernel

/-- SUB E (95_test_vectors.md A11). -/
theorem test_sub_e_a11 : vector [0x93#8] (fun s => ((s.setReg .a 0x3E#8).setReg .e 0x3E#8).setF 0x00#8) (fun t =>
    t.cpu.a == 0x00#8 && t.cpu.f == 0xC0#8 && t.cpu.pc == 0x0101#16 && t.cycles == 4) = true := by decide +kernel

/-- SUB d8 (95_test_vectors.md A13). -/
theorem test_sub_d8_a13 : vector [0xD6#8, 0x40#8] (fun s => (s.setReg .a 0x3E#8).setF 0x00#8) (fun t => t.cpu.a ==
    0xFE#8 && t.cpu.f == 0x50#8 && t.cpu.pc == 0x0102#16 && t.cycles == 8) = true := by decide +kernel

/-- SBC A,H (95_test_vectors.md A15). -/
theorem test_sbc_a_h_a15 : vector [0x9C#8] (fun s => ((s.setReg .a 0x3B#8).setReg .h 0x2A#8).setF 0x10#8) (fun t =>
    t.cpu.a == 0x10#8 && t.cpu.f == 0x40#8 && t.cpu.pc == 0x0101#16 && t.cycles == 4) = true := by decide +kernel

/-- SBC A,d8 (95_test_vectors.md A19). -/
theorem test_sbc_a_d8_a19 : vector [0xDE#8, 0xFF#8] (fun s => (s.setReg .a 0x00#8).setF 0x10#8) (fun t => t.cpu.a ==
    0x00#8 && t.cpu.f == 0xF0#8 && t.cpu.pc == 0x0102#16 && t.cycles == 8) = true := by decide +kernel

/-- AND L (95_test_vectors.md A21). -/
theorem test_and_l_a21 : vector [0xA5#8] (fun s => ((s.setReg .a 0x5A#8).setReg .l 0x3F#8).setF 0x50#8) (fun t =>
    t.cpu.a == 0x1A#8 && t.cpu.f == 0x20#8 && t.cpu.pc == 0x0101#16 && t.cycles == 4) = true := by decide +kernel

/-- AND d8 (95_test_vectors.md A22). -/
theorem test_and_d8_a22 : vector [0xE6#8, 0x00#8] (fun s => (s.setReg .a 0x5A#8).setF 0x00#8) (fun t => t.cpu.a ==
    0x00#8 && t.cpu.f == 0xA0#8 && t.cpu.pc == 0x0102#16 && t.cycles == 8) = true := by decide +kernel

/-- XOR A (95_test_vectors.md A23). -/
theorem test_xor_a_a23 : vector [0xAF#8] (fun s => (s.setReg .a 0xFF#8).setF 0xF0#8) (fun t => t.cpu.a == 0x00#8 &&
    t.cpu.f == 0x80#8 && t.cpu.pc == 0x0101#16 && t.cycles == 4) = true := by decide +kernel

/-- OR A (95_test_vectors.md A25). -/
theorem test_or_a_a25 : vector [0xB7#8] (fun s => (s.setReg .a 0x00#8).setF 0xF0#8) (fun t => t.cpu.a == 0x00#8 &&
    t.cpu.f == 0x80#8 && t.cpu.pc == 0x0101#16 && t.cycles == 4) = true := by decide +kernel

/-- CP B (95_test_vectors.md A27). -/
theorem test_cp_b_a27 : vector [0xB8#8] (fun s => ((s.setReg .a 0x3C#8).setReg .b 0x2F#8).setF 0x00#8) (fun t =>
    t.cpu.a == 0x3C#8 && t.cpu.f == 0x60#8 && t.cpu.pc == 0x0101#16 && t.cycles == 4) = true := by decide +kernel

/-- CP d8 (95_test_vectors.md A29). -/
theorem test_cp_d8_a29 : vector [0xFE#8, 0x40#8] (fun s => (s.setReg .a 0x3C#8).setF 0x00#8) (fun t => t.cpu.a ==
    0x3C#8 && t.cpu.f == 0x50#8 && t.cpu.pc == 0x0102#16 && t.cycles == 8) = true := by decide +kernel

/-- INC A (95_test_vectors.md A30). -/
theorem test_inc_a_a30 : vector [0x3C#8] (fun s => (s.setReg .a 0xFF#8).setF 0x10#8) (fun t => t.cpu.a == 0x00#8 &&
    t.cpu.f == 0xB0#8 && t.cpu.pc == 0x0101#16 && t.cycles == 4) = true := by decide +kernel

/-- INC (HL) (95_test_vectors.md A33). -/
theorem test_inc_mhl_a33 : vector [0x34#8] (fun s => (placeByte ((s.setReg .h 0xC0#8).setReg .l 0x10#8) 0xC010#16
    0x4F#8).setF 0x10#8) (fun t => t.cpu.a == 0x00#8 && t.cpu.f == 0x30#8 && memRead t 0xC010#16 == 0x50#8 && t.cpu.pc
    == 0x0101#16 && t.cycles == 12) = true := by decide +kernel

/-- DEC C (95_test_vectors.md A35). -/
theorem test_dec_c_a35 : vector [0x0D#8] (fun s => (s.setReg .c 0x00#8).setF 0x00#8) (fun t => t.cpu.a == 0x00#8 &&
    t.cpu.f == 0x60#8 && t.cpu.c == 0xFF#8 && t.cpu.pc == 0x0101#16 && t.cycles == 4) = true := by decide +kernel

/-- DEC (HL) (95_test_vectors.md A37). -/
theorem test_dec_mhl_a37 : vector [0x35#8] (fun s => (placeByte ((s.setReg .h 0xC0#8).setReg .l 0x10#8) 0xC010#16
    0x00#8).setF 0x10#8) (fun t => t.cpu.a == 0x00#8 && t.cpu.f == 0x70#8 && memRead t 0xC010#16 == 0xFF#8 && t.cpu.pc
    == 0x0101#16 && t.cycles == 12) = true := by decide +kernel

/-- CPL (95_test_vectors.md A38). -/
theorem test_cpl_a38 : vector [0x2F#8] (fun s => (s.setReg .a 0x35#8).setF 0x90#8) (fun t => t.cpu.a == 0xCA#8 &&
    t.cpu.f == 0xF0#8 && t.cpu.pc == 0x0101#16 && t.cycles == 4) = true := by decide +kernel

/-- SCF (95_test_vectors.md A40). -/
theorem test_scf_a40 : vector [0x37#8] (fun s => (s.setReg .a 0x00#8).setF 0xE0#8) (fun t => t.cpu.a == 0x00#8 &&
    t.cpu.f == 0x90#8 && t.cpu.pc == 0x0101#16 && t.cycles == 4) = true := by decide +kernel

/-- CCF (95_test_vectors.md A42). -/
theorem test_ccf_a42 : vector [0x3F#8] (fun s => (s.setReg .a 0x00#8).setF 0xF0#8) (fun t => t.cpu.a == 0x00#8 &&
    t.cpu.f == 0x80#8 && t.cpu.pc == 0x0101#16 && t.cycles == 4) = true := by decide +kernel

/-- DAA (95_test_vectors.md DA3). -/
theorem test_daa_da3 : vector [0x27#8] (fun s => (s.setReg .a 0x9A#8).setF 0x00#8) (fun t => t.cpu.a == 0x00#8 &&
    t.cpu.f == 0x90#8 && t.cpu.pc == 0x0101#16 && t.cycles == 4) = true := by decide +kernel

/-- DAA (95_test_vectors.md DA9). -/
theorem test_daa_da9 : vector [0x27#8] (fun s => (s.setReg .a 0x99#8).setF 0x30#8) (fun t => t.cpu.a == 0xFF#8 &&
    t.cpu.f == 0x10#8 && t.cpu.pc == 0x0101#16 && t.cycles == 4) = true := by decide +kernel

/-- DAA (95_test_vectors.md DA11). -/
theorem test_daa_da11 : vector [0x27#8] (fun s => (s.setReg .a 0x0F#8).setF 0x60#8) (fun t => t.cpu.a == 0x09#8 &&
    t.cpu.f == 0x40#8 && t.cpu.pc == 0x0101#16 && t.cycles == 4) = true := by decide +kernel

/-- DAA (95_test_vectors.md DA16). -/
theorem test_daa_da16 : vector [0x27#8] (fun s => (s.setReg .a 0x60#8).setF 0x50#8) (fun t => t.cpu.a == 0x00#8 &&
    t.cpu.f == 0xD0#8 && t.cpu.pc == 0x0101#16 && t.cycles == 4) = true := by decide +kernel

/-- ADD HL,BC (95_test_vectors.md W1). -/
theorem test_add_hl_bc_w1 : vector [0x09#8] (fun s => ((s.setPair .hl 0x8A23#16).setPair .bc 0x0605#16).setF 0x80#8)
    (fun t => t.cpu.f == 0xA0#8 && t.hl == 0x9028#16 && t.cpu.pc == 0x0101#16 && t.cycles == 8) = true
    := by decide +kernel

/-- ADD HL,DE (95_test_vectors.md W4). -/
theorem test_add_hl_de_w4 : vector [0x19#8] (fun s => ((s.setPair .hl 0xFFFF#16).setPair .de 0x0001#16).setF 0x40#8)
    (fun t => t.cpu.f == 0x30#8 && t.hl == 0x0000#16 && t.cpu.pc == 0x0101#16 && t.cycles == 8) = true
    := by decide +kernel

/-- INC BC (95_test_vectors.md W6). -/
theorem test_inc_bc_w6 : vector [0x03#8] (fun s => (s.setPair .bc 0xFFFF#16).setF 0x00#8) (fun t => t.cpu.f == 0x00#8
    && t.bc == 0x0000#16 && t.cpu.pc == 0x0101#16 && t.cycles == 8) = true := by decide +kernel

/-- DEC DE (95_test_vectors.md W8). -/
theorem test_dec_de_w8 : vector [0x1B#8] (fun s => (s.setPair .de 0x0000#16).setF 0x00#8) (fun t => t.cpu.f == 0x00#8
    && t.de == 0xFFFF#16 && t.cpu.pc == 0x0101#16 && t.cycles == 8) = true := by decide +kernel

/-- ADD SP,s8 (95_test_vectors.md W12). -/
theorem test_add_sp_s8_w12 : vector [0xE8#8, 0xFF#8] (fun s => (s.setSp 0x0000#16).setF 0x00#8) (fun t => t.cpu.f ==
    0x00#8 && t.cpu.sp == 0xFFFF#16 && t.cpu.pc == 0x0102#16 && t.cycles == 16) = true := by decide +kernel

/-- ADD SP,s8 (95_test_vectors.md W15). -/
theorem test_add_sp_s8_w15 : vector [0xE8#8, 0x80#8] (fun s => (s.setSp 0x0180#16).setF 0x00#8) (fun t => t.cpu.f ==
    0x10#8 && t.cpu.sp == 0x0100#16 && t.cpu.pc == 0x0102#16 && t.cycles == 16) = true := by decide +kernel

/-- LD HL,SP+s8 (95_test_vectors.md W17). -/
theorem test_ld_hl_sp_s8_w17 : vector [0xF8#8, 0xFE#8] (fun s => (s.setSp 0xFFFE#16).setF 0x00#8) (fun t => t.cpu.f ==
    0x30#8 && t.hl == 0xFFFC#16 && t.cpu.pc == 0x0102#16 && t.cycles == 12) = true := by decide +kernel

/-- RLCA (95_test_vectors.md RS1). -/
theorem test_rlca_rs1 : vector [0x07#8] (fun s => (s.setReg .a 0x85#8).setF 0x80#8) (fun t => t.cpu.a == 0x0B#8 &&
    t.cpu.f == 0x10#8 && t.cpu.pc == 0x0101#16 && t.cycles == 4) = true := by decide +kernel

/-- RLA (95_test_vectors.md RS3). -/
theorem test_rla_rs3 : vector [0x17#8] (fun s => (s.setReg .a 0x95#8).setF 0x10#8) (fun t => t.cpu.a == 0x2B#8 &&
    t.cpu.f == 0x10#8 && t.cpu.pc == 0x0101#16 && t.cycles == 4) = true := by decide +kernel

/-- RRCA (95_test_vectors.md RS5). -/
theorem test_rrca_rs5 : vector [0x0F#8] (fun s => (s.setReg .a 0x3B#8).setF 0x00#8) (fun t => t.cpu.a == 0x9D#8 &&
    t.cpu.f == 0x10#8 && t.cpu.pc == 0x0101#16 && t.cycles == 4) = true := by decide +kernel

/-- RRA (95_test_vectors.md RS7). -/
theorem test_rra_rs7 : vector [0x1F#8] (fun s => (s.setReg .a 0x01#8).setF 0x00#8) (fun t => t.cpu.a == 0x00#8 &&
    t.cpu.f == 0x10#8 && t.cpu.pc == 0x0101#16 && t.cycles == 4) = true := by decide +kernel

/-- RLC B (95_test_vectors.md RS8). -/
theorem test_rlc_b_rs8 : vector [0xCB#8, 0x00#8] (fun s => (s.setPair .bc 0x8500#16).setF 0x00#8) (fun t => t.cpu.f ==
    0x10#8 && t.bc == 0x0B00#16 && t.cpu.pc == 0x0102#16 && t.cycles == 8) = true := by decide +kernel

/-- RRC C (95_test_vectors.md RS10). -/
theorem test_rrc_c_rs10 : vector [0xCB#8, 0x09#8] (fun s => (s.setPair .bc 0x0001#16).setF 0x00#8) (fun t => t.cpu.f
    == 0x10#8 && t.bc == 0x0080#16 && t.cpu.pc == 0x0102#16 && t.cycles == 8) = true := by decide +kernel

/-- RL D (95_test_vectors.md RS12). -/
theorem test_rl_d_rs12 : vector [0xCB#8, 0x12#8] (fun s => (s.setPair .de 0x1100#16).setF 0x10#8) (fun t => t.cpu.f ==
    0x00#8 && t.de == 0x2300#16 && t.cpu.pc == 0x0102#16 && t.cycles == 8) = true := by decide +kernel

/-- RR E (95_test_vectors.md RS14). -/
theorem test_rr_e_rs14 : vector [0xCB#8, 0x1B#8] (fun s => (s.setPair .de 0x008A#16).setF 0x10#8) (fun t => t.cpu.f ==
    0x00#8 && t.de == 0x00C5#16 && t.cpu.pc == 0x0102#16 && t.cycles == 8) = true := by decide +kernel

/-- SLA (HL) (95_test_vectors.md RS16). -/
theorem test_sla_mhl_rs16 : vector [0xCB#8, 0x26#8] (fun s => (placeByte (s.setPair .hl 0xC000#16) 0xC000#16
    0xFF#8).setF 0x00#8) (fun t => t.cpu.f == 0x10#8 && t.cpu.pc == 0x0102#16 && memRead t 0xC000#16 == 0xFE#8 &&
    t.cycles == 16) = true := by decide +kernel

/-- SRA A (95_test_vectors.md RS17). -/
theorem test_sra_a_rs17 : vector [0xCB#8, 0x2F#8] (fun s => (s.setReg .a 0x8A#8).setF 0x10#8) (fun t => t.cpu.a ==
    0xC5#8 && t.cpu.f == 0x00#8 && t.cpu.pc == 0x0102#16 && t.cycles == 8) = true := by decide +kernel

/-- SRL (HL) (95_test_vectors.md RS20). -/
theorem test_srl_mhl_rs20 : vector [0xCB#8, 0x3E#8] (fun s => (placeByte (s.setPair .hl 0xC000#16) 0xC000#16
    0xFF#8).setF 0x00#8) (fun t => t.cpu.f == 0x10#8 && t.cpu.pc == 0x0102#16 && memRead t 0xC000#16 == 0x7F#8 &&
    t.cycles == 16) = true := by decide +kernel

/-- SWAP (HL) (95_test_vectors.md RS22). -/
theorem test_swap_mhl_rs22 : vector [0xCB#8, 0x36#8] (fun s => (placeByte (s.setPair .hl 0xC000#16) 0xC000#16
    0xF1#8).setF 0x10#8) (fun t => t.cpu.f == 0x00#8 && t.cpu.pc == 0x0102#16 && memRead t 0xC000#16 == 0x1F#8 &&
    t.cycles == 16) = true := by decide +kernel

/-- BIT 7,A (95_test_vectors.md RS23). -/
theorem test_bit_7_a_rs23 : vector [0xCB#8, 0x7F#8] (fun s => (s.setReg .a 0x80#8).setF 0x50#8) (fun t => t.cpu.f ==
    0x30#8 && t.cpu.pc == 0x0102#16 && t.cycles == 8) = true := by decide +kernel

/-- BIT 0,(HL) (95_test_vectors.md RS25). -/
theorem test_bit_0_mhl_rs25 : vector [0xCB#8, 0x46#8] (fun s => (placeByte (s.setPair .hl 0xC000#16) 0xC000#16
    0xFE#8).setF 0x10#8) (fun t => t.cpu.f == 0xB0#8 && t.cpu.pc == 0x0102#16 && memRead t 0xC000#16 == 0xFE#8 &&
    t.cycles == 12) = true := by decide +kernel

/-- RES 7,A (95_test_vectors.md RS26). -/
theorem test_res_7_a_rs26 : vector [0xCB#8, 0xBF#8] (fun s => (s.setReg .a 0x80#8).setF 0xF0#8) (fun t => t.cpu.a ==
    0x00#8 && t.cpu.f == 0xF0#8 && t.cpu.pc == 0x0102#16 && t.cycles == 8) = true := by decide +kernel

/-- SET 7,(HL) (95_test_vectors.md RS29). -/
theorem test_set_7_mhl_rs29 : vector [0xCB#8, 0xFE#8] (fun s => (placeByte (s.setPair .hl 0xC000#16) 0xC000#16
    0x00#8).setF 0x00#8) (fun t => t.cpu.f == 0x00#8 && t.cpu.pc == 0x0102#16 && memRead t 0xC000#16 == 0x80#8 &&
    t.cycles == 16) = true := by decide +kernel

/-- LD B,d8 (95_test_vectors.md L1). -/
theorem test_ld_b_d8_l1 : vector [0x06#8, 0x42#8] (fun s => s.setF 0xF0#8) (fun t => t.cpu.f == 0xF0#8 && t.bc ==
    0x4200#16 && t.cpu.pc == 0x0102#16 && t.cycles == 8) = true := by decide +kernel

/-- LD (HL),d8 (95_test_vectors.md L2). -/
theorem test_ld_mhl_d8_l2 : vector [0x36#8, 0x99#8] (fun s => (placeByte (s.setPair .hl 0xC123#16) 0xC123#16
    0x00#8).setF 0x00#8) (fun t => t.cpu.pc == 0x0102#16 && memRead t 0xC123#16 == 0x99#8 && t.cycles == 12) = true
    := by decide +kernel

/-- LD H,(HL) (95_test_vectors.md L3). -/
theorem test_ld_h_mhl_l3 : vector [0x66#8] (fun s => (placeByte (s.setPair .hl 0xC000#16) 0xC000#16 0x5C#8).setF
    0x00#8) (fun t => t.hl == 0x5C00#16 && t.cpu.pc == 0x0101#16 && memRead t 0xC000#16 == 0x5C#8 && t.cycles == 8) =
    true := by decide +kernel

/-- LD (HL),L (95_test_vectors.md L4). -/
theorem test_ld_mhl_l_l4 : vector [0x75#8] (fun s => (placeByte (s.setPair .hl 0xC07F#16) 0xC07F#16 0x00#8).setF
    0x00#8) (fun t => t.cpu.pc == 0x0101#16 && memRead t 0xC07F#16 == 0x7F#8 && t.cycles == 8) = true
    := by decide +kernel

/-- LD E,A (95_test_vectors.md L5). -/
theorem test_ld_e_a_l5 : vector [0x5F#8] (fun s => (s.setReg .a 0x77#8).setF 0x00#8) (fun t => t.de == 0x0077#16 &&
    t.cpu.pc == 0x0101#16 && t.cycles == 4) = true := by decide +kernel

/-- LD BC,d16 (95_test_vectors.md L6). -/
theorem test_ld_bc_d16_l6 : vector [0x01#8, 0x34#8, 0x12#8] (fun s => s.setF 0x00#8) (fun t => t.bc == 0x1234#16 &&
    t.cpu.pc == 0x0103#16 && t.cycles == 12) = true := by decide +kernel

/-- LD (BC),A (95_test_vectors.md L8). -/
theorem test_ld_mbc_a_l8 : vector [0x02#8] (fun s => (placeByte ((s.setReg .a 0x3F#8).setPair .bc 0xC205#16) 0xC205#16
    0x00#8).setF 0x00#8) (fun t => t.cpu.pc == 0x0101#16 && memRead t 0xC205#16 == 0x3F#8 && t.cycles == 8) = true
    := by decide +kernel

/-- LD A,(DE) (95_test_vectors.md L9). -/
theorem test_ld_a_mde_l9 : vector [0x1A#8] (fun s => (placeByte (s.setPair .de 0xC300#16) 0xC300#16 0x5F#8).setF
    0x00#8) (fun t => t.cpu.a == 0x5F#8 && t.cpu.pc == 0x0101#16 && memRead t 0xC300#16 == 0x5F#8 && t.cycles == 8) =
    true := by decide +kernel

/-- LD (HL+),A (95_test_vectors.md L10). -/
theorem test_ld_mhli_a_l10 : vector [0x22#8] (fun s => ((s.setReg .a 0x56#8).setPair .hl 0xFFFF#16).setF 0x00#8) (fun
    t => t.hl == 0x0000#16 && t.cpu.pc == 0x0101#16 && t.cycles == 8) = true := by decide +kernel

/-- LD A,(HL+) (95_test_vectors.md L11). -/
theorem test_ld_a_mhli_l11 : vector [0x2A#8] (fun s => (placeByte (s.setPair .hl 0xC1FF#16) 0xC1FF#16 0x56#8).setF
    0x00#8) (fun t => t.cpu.a == 0x56#8 && t.hl == 0xC200#16 && t.cpu.pc == 0x0101#16 && memRead t 0xC1FF#16 == 0x56#8
    && t.cycles == 8) = true := by decide +kernel

/-- LD (HL-),A (95_test_vectors.md L12). -/
theorem test_ld_mhld_a_l12 : vector [0x32#8] (fun s => (placeByte ((s.setReg .a 0x05#8).setPair .hl 0xC000#16)
    0xC000#16 0x00#8).setF 0x00#8) (fun t => t.hl == 0xBFFF#16 && t.cpu.pc == 0x0101#16 && memRead t 0xC000#16 ==
    0x05#8 && t.cycles == 8) = true := by decide +kernel

/-- LD A,(HL-) (95_test_vectors.md L13). -/
theorem test_ld_a_mhld_l13 : vector [0x3A#8] (fun s => (s.setPair .hl 0x0000#16).setF 0x00#8) (fun t => t.hl ==
    0xFFFF#16 && t.cpu.pc == 0x0101#16 && t.cycles == 8) = true := by decide +kernel

/-- LDH (a8),A (95_test_vectors.md L14). -/
theorem test_ldh_ma8_a_l14 : vector [0xE0#8, 0x80#8] (fun s => (s.setReg .a 0xA5#8).setF 0x00#8) (fun t => t.cpu.pc ==
    0x0102#16 && memRead t 0xFF80#16 == 0xA5#8 && t.cycles == 12) = true := by decide +kernel

/-- LDH A,(a8) (95_test_vectors.md L15). -/
theorem test_ldh_a_ma8_l15 : vector [0xF0#8, 0x80#8] (fun s => (placeByte s 0xFF80#16 0x3C#8).setF 0x00#8) (fun t =>
    t.cpu.a == 0x3C#8 && t.cpu.pc == 0x0102#16 && memRead t 0xFF80#16 == 0x3C#8 && t.cycles == 12) = true
    := by decide +kernel

/-- LD (C),A (95_test_vectors.md L16). -/
theorem test_ld_mc_a_l16 : vector [0xE2#8] (fun s => ((s.setReg .a 0x77#8).setPair .bc 0x0090#16).setF 0x00#8) (fun t
    => t.cpu.pc == 0x0101#16 && memRead t 0xFF90#16 == 0x77#8 && t.cycles == 8) = true := by decide +kernel

/-- LD A,(C) (95_test_vectors.md L17). -/
theorem test_ld_a_mc_l17 : vector [0xF2#8] (fun s => (placeByte (s.setPair .bc 0x0095#16) 0xFF95#16 0x12#8).setF
    0x00#8) (fun t => t.cpu.a == 0x12#8 && t.cpu.pc == 0x0101#16 && memRead t 0xFF95#16 == 0x12#8 && t.cycles == 8) =
    true := by decide +kernel

/-- LD (a16),A (95_test_vectors.md L18). -/
theorem test_ld_ma16_a_l18 : vector [0xEA#8, 0x00#8, 0xD0#8] (fun s => (s.setReg .a 0x9C#8).setF 0x00#8) (fun t =>
    t.cpu.pc == 0x0103#16 && memRead t 0xD000#16 == 0x9C#8 && memRead t 0xF000#16 == 0x9C#8 && t.cycles == 16) = true
    := by decide +kernel

/-- LD A,(a16) (95_test_vectors.md L19). -/
theorem test_ld_a_ma16_l19 : vector [0xFA#8, 0x34#8, 0xC2#8] (fun s => (placeByte s 0xC234#16 0x88#8).setF 0x00#8)
    (fun t => t.cpu.a == 0x88#8 && t.cpu.pc == 0x0103#16 && memRead t 0xC234#16 == 0x88#8 && t.cycles == 16) = true
    := by decide +kernel

/-- LD (a16),SP (95_test_vectors.md L20). -/
theorem test_ld_ma16_sp_l20 : vector [0x08#8, 0x00#8, 0xC1#8] (fun s => (s.setSp 0xFFF8#16).setF 0x00#8) (fun t =>
    t.cpu.pc == 0x0103#16 && memRead t 0xC100#16 == 0xF8#8 && memRead t 0xC101#16 == 0xFF#8 && t.cycles == 20) = true
    := by decide +kernel

/-- LD SP,HL (95_test_vectors.md L21). -/
theorem test_ld_sp_hl_l21 : vector [0xF9#8] (fun s => ((s.setPair .hl 0xD000#16).setSp 0xFFFE#16).setF 0xF0#8) (fun t
    => t.cpu.f == 0xF0#8 && t.cpu.sp == 0xD000#16 && t.cpu.pc == 0x0101#16 && t.cycles == 8) = true
    := by decide +kernel

/-- JP a16 (95_test_vectors.md CT1). -/
theorem test_jp_a16_ct1 : vector [0xC3#8, 0x00#8, 0x80#8] (fun s => s.setF 0x00#8) (fun t => t.cpu.pc == 0x8000#16 &&
    t.cycles == 16) = true := by decide +kernel

/-- JP HL (95_test_vectors.md CT2). -/
theorem test_jp_hl_ct2 : vector [0xE9#8] (fun s => (s.setPair .hl 0xC123#16).setF 0x00#8) (fun t => t.cpu.pc ==
    0xC123#16 && t.cycles == 4) = true := by decide +kernel

/-- JP NZ,a16 (95_test_vectors.md CT3). -/
theorem test_jp_nz_a16_ct3 : vector [0xC2#8, 0x50#8, 0x01#8] (fun s => s.setF 0x80#8) (fun t => t.cpu.f == 0x80#8 &&
    t.cpu.pc == 0x0103#16 && t.cycles == 12) = true := by decide +kernel

/-- JP NZ,a16 (95_test_vectors.md CT4). -/
theorem test_jp_nz_a16_ct4 : vector [0xC2#8, 0x50#8, 0x01#8] (fun s => s.setF 0x00#8) (fun t => t.cpu.pc == 0x0150#16
    && t.cycles == 16) = true := by decide +kernel

/-- JR s8 (95_test_vectors.md CT6). -/
theorem test_jr_s8_ct6 : vector [0x18#8, 0x05#8] (fun s => s.setF 0x00#8) (fun t => t.cpu.pc == 0x0107#16 && t.cycles
    == 12) = true := by decide +kernel

/-- JR s8 (95_test_vectors.md CT8). -/
theorem test_jr_s8_ct8 : vector [0x18#8, 0x80#8] (fun s => s.setF 0x00#8) (fun t => t.cpu.pc == 0x0082#16 && t.cycles
    == 12) = true := by decide +kernel

/-- JR Z,s8 (95_test_vectors.md CT9). -/
theorem test_jr_z_s8_ct9 : vector [0x28#8, 0x10#8] (fun s => s.setF 0x00#8) (fun t => t.cpu.pc == 0x0102#16 &&
    t.cycles == 8) = true := by decide +kernel

/-- JR NC,s8 (95_test_vectors.md CT11). -/
theorem test_jr_nc_s8_ct11 : vector [0x30#8, 0xFB#8] (fun s => s.setF 0x00#8) (fun t => t.cpu.pc == 0x00FD#16 &&
    t.cycles == 12) = true := by decide +kernel

/-- CALL a16 (95_test_vectors.md CT12). -/
theorem test_call_a16_ct12 : vector [0xCD#8, 0x34#8, 0x12#8] (fun s => (s.setSp 0xFFFE#16).setF 0x00#8) (fun t =>
    t.cpu.sp == 0xFFFC#16 && t.cpu.pc == 0x1234#16 && memRead t 0xFFFD#16 == 0x01#8 && memRead t 0xFFFC#16 == 0x03#8
    && t.cycles == 24) = true := by decide +kernel

/-- CALL Z,a16 (95_test_vectors.md CT13). -/
theorem test_call_z_a16_ct13 : vector [0xCC#8, 0x34#8, 0x12#8] (fun s => (s.setSp 0xFFFE#16).setF 0x00#8) (fun t =>
    t.cpu.pc == 0x0103#16 && t.cycles == 12) = true := by decide +kernel

/-- RET (95_test_vectors.md CT15). -/
theorem test_ret_ct15 : vector [0xC9#8] (fun s => (placeByte (placeByte (s.setSp 0xC000#16) 0xC000#16 0x03#8)
    0xC001#16 0x80#8).setF 0x00#8) (fun t => t.cpu.sp == 0xC002#16 && t.cpu.pc == 0x8003#16 && memRead t 0xC000#16 ==
    0x03#8 && memRead t 0xC001#16 == 0x80#8 && t.cycles == 16) = true := by decide +kernel

/-- RET NZ (95_test_vectors.md CT16). -/
theorem test_ret_nz_ct16 : vector [0xC0#8] (fun s => placeByte (placeByte ((s.setSp 0xC000#16).setF 0x80#8) 0xC000#16
    0x03#8) 0xC001#16 0x80#8) (fun t => t.cpu.f == 0x80#8 && t.cpu.pc == 0x0101#16 && memRead t 0xC000#16 == 0x03#8 &&
    memRead t 0xC001#16 == 0x80#8 && t.cycles == 8) = true := by decide +kernel

/-- RET C (95_test_vectors.md CT17). -/
theorem test_ret_c_ct17 : vector [0xD8#8] (fun s => placeByte (placeByte ((s.setSp 0xC000#16).setF 0x10#8) 0xC000#16
    0x03#8) 0xC001#16 0x80#8) (fun t => t.cpu.f == 0x10#8 && t.cpu.sp == 0xC002#16 && t.cpu.pc == 0x8003#16 && memRead
    t 0xC000#16 == 0x03#8 && memRead t 0xC001#16 == 0x80#8 && t.cycles == 20) = true := by decide +kernel

/-- RETI (95_test_vectors.md CT18). -/
theorem test_reti_ct18 : vector [0xD9#8] (fun s => (placeByte (placeByte ((s.setSp 0xC000#16).setIme false) 0xC000#16
    0x50#8) 0xC001#16 0x01#8).setF 0x00#8) (fun t => t.cpu.sp == 0xC002#16 && t.cpu.pc == 0x0150#16 && t.cpu.ime ==
    true && memRead t 0xC000#16 == 0x50#8 && memRead t 0xC001#16 == 0x01#8 && t.cycles == 16) = true
    := by decide +kernel

/-- RST 0x28 (95_test_vectors.md CT19). -/
theorem test_rst_0x28_ct19 : vector [0xEF#8] (fun s => (s.setSp 0xFFFE#16).setF 0x00#8) (fun t => t.cpu.sp ==
    0xFFFC#16 && t.cpu.pc == 0x0028#16 && memRead t 0xFFFD#16 == 0x01#8 && memRead t 0xFFFC#16 == 0x01#8 && t.cycles
    == 16) = true := by decide +kernel

/-- RST 0x00 (95_test_vectors.md CT20). -/
theorem test_rst_0x00_ct20 : vector [0xC7#8] (fun s => (s.setSp 0x0001#16).setF 0x00#8) (fun t => t.cpu.sp ==
    0xFFFF#16 && t.cpu.pc == 0x0000#16 && memRead t 0x0000#16 == 0x00#8 && memRead t 0xFFFF#16 == 0x01#8 && t.cycles
    == 16) = true := by decide +kernel

/-- PUSH BC (95_test_vectors.md CT21). -/
theorem test_push_bc_ct21 : vector [0xC5#8] (fun s => ((s.setPair .bc 0x1234#16).setSp 0xFFFE#16).setF 0x00#8) (fun t
    => t.cpu.sp == 0xFFFC#16 && t.cpu.pc == 0x0101#16 && memRead t 0xFFFD#16 == 0x12#8 && memRead t 0xFFFC#16 ==
    0x34#8 && t.cycles == 16) = true := by decide +kernel

/-- PUSH AF (95_test_vectors.md CT22). -/
theorem test_push_af_ct22 : vector [0xF5#8] (fun s => ((s.setReg .a 0x12#8).setF 0xB0#8).setSp 0xD000#16) (fun t =>
    t.cpu.f == 0xB0#8 && t.cpu.sp == 0xCFFE#16 && t.cpu.pc == 0x0101#16 && memRead t 0xCFFF#16 == 0x12#8 && memRead t
    0xCFFE#16 == 0xB0#8 && t.cycles == 16) = true := by decide +kernel

/-- POP DE (95_test_vectors.md CT23). -/
theorem test_pop_de_ct23 : vector [0xD1#8] (fun s => (placeByte (placeByte (s.setSp 0xC000#16) 0xC000#16 0xCD#8)
    0xC001#16 0xAB#8).setF 0x00#8) (fun t => t.de == 0xABCD#16 && t.cpu.sp == 0xC002#16 && t.cpu.pc == 0x0101#16 &&
    memRead t 0xC000#16 == 0xCD#8 && memRead t 0xC001#16 == 0xAB#8 && t.cycles == 12) = true := by decide +kernel

/-- POP AF (95_test_vectors.md CT24). -/
theorem test_pop_af_ct24 : vector [0xF1#8] (fun s => (placeByte (placeByte (s.setSp 0xC000#16) 0xC000#16 0xFF#8)
    0xC001#16 0x12#8).setF 0x00#8) (fun t => t.cpu.a == 0x12#8 && t.cpu.f == 0xF0#8 && t.cpu.sp == 0xC002#16 &&
    t.cpu.pc == 0x0101#16 && memRead t 0xC000#16 == 0xFF#8 && memRead t 0xC001#16 == 0x12#8 && t.cycles == 12) = true
    := by decide +kernel

/-! System instructions and interrupts (95_test_vectors.md, sections 2.7 and 2.8). -/

/-- EI sets the latch only (Y1, step 1). -/
theorem test_ei_y1 : vector [0xFB#8] (withInterrupts 0x04#8 0x04#5 false) (fun t =>
    !t.cpu.ime && t.cpu.imePending && t.cpu.pc == 0x0101#16 && t.cycles == 4) = true := by decide +kernel

/-- The instruction after EI executes, then the latch is promoted (Y1, step 2). -/
theorem test_nop_promotes_y1 : vector [0x00#8] (fun s => (withInterrupts 0x04#8 0x04#5 false s).setImePending true) (fun t =>
    t.cpu.ime && !t.cpu.imePending && t.cpu.pc == 0x0101#16 && t.cycles == 4) = true := by decide +kernel

/-- DI after EI: nothing is promoted (Y2, step 2). -/
theorem test_di_y2 : vector [0xF3#8] (fun s => (withInterrupts 0x04#8 0x04#5 false s).setImePending true) (fun t =>
    !t.cpu.ime && !t.cpu.imePending && t.intr.flags == 0x04#5 && t.cpu.pc == 0x0101#16) = true := by decide +kernel

/-- HALT with nothing pending (Y6, step 1). -/
theorem test_halt_y6 : vector [0x76#8] (withInterrupts 0x04#8 0x00#5 false) (fun t =>
    t.cpu.halted && t.cpu.pc == 0x0101#16 && t.cycles == 4) = true := by decide +kernel

/-- HALT with IME clear, a request pending and HALT_BUG true (Y5, second part, step 1). -/
theorem test_halt_bug_y5 : vector [0x76#8] (fun s => { withInterrupts 0x01#8 0x01#5 false s with haltBug := true }) (fun t =>
    !t.cpu.halted && t.cpu.haltBugLatch && t.cpu.pc == 0x0101#16) = true := by decide +kernel

/-- The fetch with the latch set does not advance PC (Y5, second part, step 2). -/
theorem test_halt_bug_fetch_y5 : vector [0x3C#8] (fun s =>
    ({ withInterrupts 0x01#8 0x01#5 false s with haltBug := true } : State).setHaltBugLatch true) (fun t =>
    t.cpu.a == 0x01#8 && !t.cpu.haltBugLatch && t.cpu.pc == 0x0100#16) = true := by decide +kernel

/-- Idle while halted with nothing pending (Y6, step 2). -/
theorem test_idle_y6 : vector [0x3C#8] (fun s => (withInterrupts 0x04#8 0x00#5 false s).setHalted true) (fun t =>
    t.cpu.halted && t.cpu.a == 0x00#8 && t.cpu.pc == 0x0100#16 && t.cycles == 4) = true := by decide +kernel

/-- Waking without IME: the next instruction executes (Y6, step 4). -/
theorem test_wake_y6 : vector [0x3C#8] (fun s => (withInterrupts 0x04#8 0x04#5 false s).setHalted true) (fun t =>
    !t.cpu.halted && t.cpu.a == 0x01#8 && t.cpu.pc == 0x0101#16 && t.intr.flags == 0x04#5) = true := by decide +kernel

/-- An undefined opcode (Y7). -/
theorem test_illegal_d3_y7 : vector [0xD3#8, 0x00#8] id (fun t => t.cpu.illegalSeen && t.cpu.illegalOp == 0xD3#8
    && t.cpu.pc == 0x0101#16 && t.cycles == 4 && t.hl == 0x0000#16 && t.cpu.sp == 0xFFFE#16) = true := by decide +kernel

/-- STOP: two bytes, no effect; the timer's counter goes on (Y8). -/
theorem test_stop_y8 : vector [0x10#8, 0x00#8] id (fun t =>
    t.cpu.pc == 0x0102#16 && t.cycles == 4 && t.timer.divCounter == 0xABD0#16) = true := by decide +kernel

/-- NOP (S2). -/
theorem test_nop_s2 : vector [0x00#8] id (fun t =>
    t.cpu.pc == 0x0101#16 && t.cycles == 4 && t.ppu.lx == 4) = true := by decide +kernel

/-- Dispatch: the lowest pending source (IR1). -/
theorem test_dispatch_ir1 : vector [0x00#8] (withInterrupts 0x1F#8 0x1F#5 true) (fun t => t.cpu.pc == 0x0040#16
    && t.intr.flags == 0x1E#5 && !t.cpu.ime && t.cpu.sp == 0xFFFC#16 && memRead t 0xFFFD#16 == 0x01#8
    && memRead t 0xFFFC#16 == 0x00#8 && t.cycles == 20) = true := by decide +kernel

/-- Dispatch: pending and enabled (IR2). -/
theorem test_dispatch_ir2 : vector [0x00#8] (withInterrupts 0x1A#8 0x1E#5 true) (fun t =>
    t.cpu.pc == 0x0048#16 && t.intr.flags == 0x1C#5 && t.cycles == 20) = true := by decide +kernel

/-- A request that is not enabled is not dispatched (IR3). -/
theorem test_no_dispatch_ir3 : vector [0x00#8] (withInterrupts 0x04#8 0x01#5 true) (fun t =>
    t.cpu.pc == 0x0101#16 && t.intr.flags == 0x01#5 && t.cycles == 4) = true := by decide +kernel

/-- Dispatch: the joypad's vector (IR5). -/
theorem test_dispatch_ir5 : vector [0x00#8] (withInterrupts 0x10#8 0x10#5 true) (fun t =>
    t.cpu.pc == 0x0060#16 && t.intr.flags == 0x00#5) = true := by decide +kernel

/-! Devices (95_test_vectors.md, sections 2.9 to 2.14). -/

/-- The overflow reloads and requests in the same T-cycle (T8). -/
theorem test_timer_overflow_t8 :
    let s := { vectorState with timer := ⟨0x0000#16, 0xFF#8, 0x80#8, 0b101#3⟩, intr := ⟨0x00#8, 0#5⟩ }
    (timerTick 15 s).timer.tima = 0xFF#8 ∧ (timerTick 15 s).intr.flags = 0#5
      ∧ (timerTick 16 s).timer.tima = 0x80#8 ∧ (timerTick 16 s).intr.flags = 0x04#5 := by decide +kernel

/-- A write to DIV clears the counter and causes no increment (T6). -/
theorem test_div_write_t6 :
    let s := memWrite { vectorState with timer := ⟨0x0008#16, 0x10#8, 0x00#8, 0b101#3⟩ } 0xFF04#16 0x55#8
    s.timer.divCounter = 0x0000#16 ∧ s.timer.tima = 0x10#8 := by decide +kernel

/-- The timer registers right after reset (T10). -/
theorem test_timer_reads_t10 : memRead State.reset 0xFF04#16 = 0xAB#8 ∧ memRead State.reset 0xFF05#16 = 0x00#8
    ∧ memRead State.reset 0xFF06#16 = 0x00#8 ∧ memRead State.reset 0xFF07#16 = 0xF8#8 := by decide +kernel

/-- The joypad: directions exposed with Right pressed (J4). -/
theorem test_joypad_j4 :
    let s := memWrite (setButtons 0x81#8 (memWrite { vectorState with intr := ⟨0x00#8, 0#5⟩ } 0xFF00#16 0x30#8)) 0xFF00#16 0x20#8
    memRead s 0xFF00#16 = 0xEE#8 ∧ s.intr.flags = 0x10#5 := by decide +kernel

/-- The joypad: the host's event is delivered before the step it is tagged with (R289, J8). -/
theorem test_joypad_event : vector [0x00#8] (fun s =>
    { s with intr := ⟨0x00#8, 0#5⟩, inputs := [⟨0, .setButtons 0x10#8⟩, ⟨1, .takeFrame⟩] }) (fun t =>
    t.joypad.buttons == 0x10#8 && t.intr.flags == 0x10#5 && t.inputs.length == 1) = true := by decide +kernel

/-- VBlank entry: LY 144, IF bit 0, the frame handed over (U2). -/
theorem test_vblank_u2 :
    let s := ppuDot (atDot 143 455 { vectorState with intr := ⟨0x00#8, 0#5⟩ })
    s.ppu.ly = 144 ∧ s.ppu.lx = 0 ∧ s.ppu.mode = .vblank ∧ s.intr.flags = 0x01#5 ∧ s.ppu.frameReady = true := by
  decide +kernel

/-- STAT with the LCD on at the first dot, and its enables (U4, U5). -/
theorem test_stat_read_u5 : memRead vectorState 0xFF41#16 = 0x86#8
    ∧ memRead (memWrite vectorState 0xFF41#16 0xFF#8) 0xFF41#16 = 0xFE#8 := by decide +kernel

/-- The coincidence request in the dot in which LY becomes LYC (S6). -/
theorem test_stat_lyc_s6 :
    let s := atDot 39 455 { vectorState with
      intr := ⟨0x00#8, 0#5⟩, ppu := { vectorState.ppu with lyc := 40#8, statEn := 0b1000#4 } }
    s.intr.flags = 0#5 ∧ (ppuDot s).ppu.ly = 40 ∧ (ppuDot s).intr.flags = 0x02#5 := by decide +kernel

/-- Switching the LCD off (U8). -/
theorem test_lcd_off_u8 :
    let s := memWrite (atDot 2 88 vectorState) 0xFF40#16 0x11#8
    s.ppu.ly = 0 ∧ s.ppu.lx = 0 ∧ memRead s 0xFF41#16 = 0x84#8 ∧ memRead s 0xFF44#16 = 0x00#8 := by decide +kernel

/-- A write to LY is ignored (U9). -/
theorem test_ly_write_u9 : memRead (memWrite (atDot 7 0 vectorState) 0xFF44#16 0x00#8) 0xFF44#16 = 0x07#8 := by decide +kernel

/-- A background tile row (V1), columns 0 to 3. -/
theorem test_background_v1 :
    let p := { lcdOffState.ppu with lcdc := 0x91#8, bgp := 0xE4#8, vram := [(0x10, 0x3C#8), (0x11, 0x7E#8), (0x1800, 0x01#8)] }
    [0, 1, 2, 3].map (linePixel p) = [0#2, 2#2, 3#2, 3#2] := by decide +kernel

/-- A sprite row (V12), columns 0, 2, 4 and 6. -/
theorem test_sprite_v12 :
    let p := oamScan { lcdOffState.ppu with
      lcdc := 0x93#8, bgp := 0xE4#8, obp0 := 0xE4#8, obp1 := 0x1B#8, vram := [(0x20, 0xF0#8), (0x21, 0xCC#8)],
      oam := [(0, 0x10#8), (1, 0x08#8), (2, 0x02#8)] }
    [0, 2, 4, 6].map (linePixel p) = [3#2, 1#2, 2#2, 0#2] := by decide +kernel

/-- OAM DMA copies from the source page (48_ppu.md R340). -/
theorem test_oam_dma :
    let s := memWrite { vectorState with wram := [(0x00, 0x11#8), (0x9F, 0x22#8), (0xA0, 0x33#8)] } 0xFF46#16 0xC0#8
    Memory.read s.ppu.oam 0 = 0x11#8 ∧ Memory.read s.ppu.oam 159 = 0x22#8 ∧ s.ppu.oam.length = 2 := by decide +kernel

/-- The echo area and the access windows (20_memory.md R62, R66). -/
theorem test_windows :
    memRead (memWrite vectorState 0xC123#16 0x5A#8) 0xE123#16 = 0x5A#8
      ∧ (memWrite (atDot 0 100 vectorState) 0x8000#16 0x5A#8).ppu.vram = []
      ∧ memRead (memWrite lcdOffState 0x8000#16 0x5A#8) 0x8000#16 = 0x5A#8 := by decide +kernel

/-- The boot overlay is disabled for good by a nonzero write to 0xFF50 (20_memory.md R78). -/
theorem test_boot_overlay :
    let s := State.start { Launch.default with boot := some [(0, 0x31#8)] }
    memRead s 0x0000#16 = 0x31#8 ∧ memRead (memWrite s 0xFF50#16 0x01#8) 0x0000#16 = 0x00#8
      ∧ (memWrite s 0xFF50#16 0x00#8).bootOn = true := by decide +kernel

/-- The MBC3's bank register (20_memory.md R87): 0 selects 1, seven bits count. -/
theorem test_mbc3_bank : (memWrite mbc3State 0x2000#16 0x00#8).cart.romBank = 1#7
    ∧ (memWrite mbc3State 0x3FFF#16 0xFF#8).cart.romBank = 0x7F#7 := by decide +kernel

/-- A launch is refused for an image of a length that is not 32 KiB times a power of two (20_memory.md R84). -/
theorem test_launch_refused : Launch.ofImage (List.replicate 100 0x00#8) none false = none := by decide +kernel

/-! Witnesses: a concrete state and operands that meet all the hypotheses of a statement. -/

theorem test_witness_DecodeEncodeRoundTrip : (Instr.ld_ma16_sp 0xC100#16).wellFormed = true := rfl

/-- Z and both digits at their ends: 99 + 99 and 0 - 99. -/
theorem test_witness_DaaAdjustsDecimalArithmetic :
    let s := vectorState.setReg .a (bcdByte 99)
    99 < 100 ∧ s.cpu.a = bcdByte 99 ∧ operand8 (.imm (bcdByte 99)) s = bcdByte 99 := by decide +kernel

theorem test_witness_UndefinedOpcodesContinue : (Instr.illegal_fd, 0xFD#8) ∈ undefinedOpcodes := by decide

/-- In HRAM, and across the top of the address space: SP 0 stores to IE and 0xFFFE. -/
theorem test_witness_StackDiscipline :
    vectorState.memoryWf = true ∧ (∀ b ∈ stackSlots vectorState, plainCell vectorState b = true)
      ∧ ∀ b ∈ stackSlots (vectorState.setSp 0x0000#16), plainCell (vectorState.setSp 0x0000#16) b = true :=
  ⟨by decide +kernel, forall_of_all (by decide +kernel), forall_of_all (by decide +kernel)⟩

/-- No transfer, with the HALT-bug fetch and without; a transfer whose condition fails; a conditional branch. -/
theorem test_witness_PcAndBranchCostLaws :
    let s := withCode [0xC2#8, 0x50#8, 0x01#8] (vectorState.setF 0x80#8)
    let bug := ({ vectorState with haltBug := true } : State).setHaltBugLatch true
    (executes bug = true ∧ isTransfer (fetchInstr bug) = false)
      ∧ executes vectorState = true ∧ isTransfer (fetchInstr vectorState) = false
      ∧ executes s = true ∧ conditionOf (fetchInstr s) = some .nz ∧ condHolds .nz s = false
      ∧ branchCosts (fetchInstr s) = some (16, 12)
      ∧ after (cpuStep vectorState) (fun _ => true) = true ∧ after (cpuStep s) (fun t => t.cycles == 12) = true := by
  decide +kernel

theorem test_witness_CyclesAreMultiplesOfFour : ∃ t, cpuStep vectorState = .next t :=
  (next_of_after (p := fun t => t.cycles == 4) (by decide +kernel)).imp fun _ h => h.1

theorem test_witness_FlagsOnlyWhereListed :
    (∃ t, exec .ld_b_c vectorState = .next t) ∧ writesFlags .ld_b_c = false ∧ vectorState.cpu.f.toNat % 16 = 0 :=
  ⟨⟨_, rfl⟩, by decide, by decide +kernel⟩

/-- A store to a plain byte with another byte named, and a form that stores nothing. -/
theorem test_witness_InstructionMemoryFrame :
    (∃ t, exec (.ld_ma16_a 0xC000#16) vectorState = .next t)
      ∧ (∀ a ∈ storedAddresses (.ld_ma16_a 0xC000#16) vectorState, plainCell vectorState a = true)
      ∧ (∀ a ∈ storedAddresses (.ld_ma16_a 0xC000#16) vectorState, cellOf 0xC001#16 ≠ cellOf a)
      ∧ (∃ t, exec .nop vectorState = .next t) ∧ storedAddresses .nop vectorState = [] :=
  ⟨⟨_, rfl⟩, forall_of_all (by decide +kernel), fun a h => by rw [List.mem_singleton.1 h]; decide, ⟨_, rfl⟩, rfl⟩

theorem test_witness_ControlStateFrame : (∃ t, exec .nop vectorState = .next t)
    ∧ Instr.nop ≠ .di ∧ Instr.nop ≠ .ei ∧ Instr.nop ≠ .reti ∧ Instr.nop ≠ .halt ∧ ∀ p ∈ undefinedOpcodes, p.1 ≠ .nop :=
  ⟨⟨_, rfl⟩, by decide, by decide, by decide, by decide, by decide⟩

/-- Both ends of every kind of plain memory. -/
theorem test_witness_PlainWriteReadsBack : vectorState.memoryWf = true ∧ mbc3State.memoryWf = true
    ∧ [0x8000#16, 0x9FFF#16, 0xC000#16, 0xDFFF#16, 0xE000#16, 0xFDFF#16, 0xFE00#16, 0xFE9F#16, 0xFF80#16, 0xFFFE#16, 0xFFFF#16].all
        (plainCell lcdOffState) = true ∧ lcdOffState.memoryWf = true
    ∧ [0xA000#16, 0xBFFF#16].all (plainCell (memWrite mbc3State 0x0000#16 0x0A#8)) = true := by decide +kernel

/-- Both ends of every kind of inert address. -/
theorem test_witness_InertAddresses :
    ([0x0000#16, 0x7FFF#16, 0xA000#16, 0xBFFF#16, 0xFE00#16, 0xFE9F#16, 0xFEA0#16, 0xFEFF#16, 0xFF01#16, 0xFF03#16,
        0xFF08#16, 0xFF0E#16, 0xFF10#16, 0xFF3F#16, 0xFF44#16, 0xFF4C#16, 0xFF4F#16, 0xFF51#16, 0xFF7F#16].all
        (inertAddress vectorState) = true)
      ∧ [0x8000#16, 0x9FFF#16].all (inertAddress (atDot 0 80 vectorState)) = true
      ∧ vectorState.cart.cartType = .romOnly ∧ mbc3State.cart.ramEnable = false := by decide +kernel

/-- Both ends of VRAM in mode 3, both ends of OAM in modes 2 and 3. -/
theorem test_witness_FetchFromClosedWindowIsRst38 :
    (let s := (atDot 0 80 vectorState).setPc 0x8000#16;
      lcdOn s.ppu = true ∧ s.ppu.mode = .drawing ∧ fetchInstr s = .rst_38)
      ∧ (let s := (atDot 0 80 vectorState).setPc 0x9FFF#16;
      lcdOn s.ppu = true ∧ s.ppu.mode = .drawing ∧ fetchInstr s = .rst_38)
      ∧ (let s := vectorState.setPc 0xFE00#16;
      lcdOn s.ppu = true ∧ s.ppu.mode = .oamScan ∧ fetchInstr s = .rst_38)
      ∧ (let s := (atDot 0 251 vectorState).setPc 0xFE9F#16;
      lcdOn s.ppu = true ∧ s.ppu.mode = .drawing ∧ fetchInstr s = .rst_38) := by decide +kernel

/-- An enabled MBC3 with a RAM bank code selected. -/
def mbc3At (bank : Byte) : State := memWrite (memWrite mbc3State 0x1FFF#16 0x0A#8) 0x5FFF#16 bank

/-- The MBC3; both ends of the windows, whose clauses exclude each other; the RAM window disabled, on the last RAM bank
and on each clock register; a latch write of either kind. -/
theorem test_witness_Mbc3Banking : mbc3State.cart.cartType = .mbc3 ∧ mbc3State.cart.ramEnable = false
    ∧ (mbc3At 0x03#8).cart.cartType = .mbc3 ∧ (mbc3At 0x03#8).cart.ramEnable = true ∧ (mbc3At 0x03#8).cart.ramBank.toNat ≤ 3
    ∧ (∀ b ∈ [0x08#8, 0x09#8, 0x0A#8, 0x0B#8, 0x0C#8], (mbc3At b).cart.ramEnable = true ∧ (mbc3At b).cart.ramBank = b
        ∧ (mbc3At b).cart.cartType = .mbc3 ∧ 8 ≤ (mbc3At b).cart.ramBank.toNat)
    ∧ (0x6000#16).toNat ≤ 0x7FFF ∧ 0x6000 ≤ (0x7FFF#16).toNat
    ∧ (memWrite mbc3State 0x6000#16 0x00#8).cart.rtcLatchPrev = 0x00#8 ∧ mbc3State.cart.rtcLatchPrev ≠ 0x00#8 := by
  decide +kernel

/-- Its clauses on ROM: the last byte under the overlay and the first past it, both ends of bank 0, both ends of the plain
ROM's second half. -/
theorem test_witness_Mbc3Banking_rom :
    let s := State.start { Launch.default with boot := some [(0xFF, 0x31#8)], rom := [(0x3FFF, 0x32#8), (0x7FFF, 0x33#8)] }
    s.bootOn = true ∧ s.cart.cartType = .romOnly ∧ (0x00FF#16).toNat ≤ 0x00FF ∧ ¬((0x0100#16).toNat ≤ 0x00FF)
      ∧ (0x3FFF#16).toNat ≤ 0x3FFF ∧ 0x4000 ≤ (0x4000#16).toNat ∧ (0x7FFF#16).toNat ≤ 0x7FFF := by decide +kernel

/-- ROM reads (20_memory.md R62, R85). -/
theorem test_rom_reads :
    let s := State.start { Launch.default with boot := some [(0xFF, 0x31#8)], rom := [(0x3FFF, 0x32#8), (0x7FFF, 0x33#8)] }
    memRead s 0x00FF#16 = 0x31#8 ∧ memRead s 0x3FFF#16 = 0x32#8 ∧ memRead s 0x7FFF#16 = 0x33#8 := by decide +kernel

/-- A write at either end of the latch window keeps the RAM enable and the bank, and drops the latched clock to zero on a
1 after a 0 (20_memory.md R90). -/
theorem test_mbc3_latch :
    let s := mbc3At 0x09#8
    let s := { s with cart := { s.cart with rtcLatched := ⟨1#8, 2#8, 3#8, 4#8, 5#8⟩ } }
    let t := memWrite (memWrite s 0x6000#16 0x00#8) 0x7FFF#16 0x01#8
    memRead s 0xA000#16 = 2#8 ∧ memRead t 0xBFFF#16 = 0#8 ∧ t.cart.ramEnable = true ∧ t.cart.ramBank = 0x09#8 := by
  decide +kernel

theorem test_witness_OamDmaCopies : vectorState.memoryWf = true ∧ 0 < 160 ∧ 159 < 160 := by decide +kernel

theorem test_witness_StepKeepsLaunchAndStickyState :
    let s := { vectorState with cpu := { vectorState.cpu with illegalSeen := true } }
    (∃ t, step s = .next t) ∧ s.bootOn = false ∧ s.cpu.illegalSeen = true :=
  ⟨(next_of_after (p := fun t => t.cpu.illegalSeen) (by decide +kernel)).imp fun _ h => h.1, rfl, rfl⟩

/-- Executing; idle; dispatching the last source; with no event. -/
theorem test_witness_StepRunsDecodedInstruction :
    let s := withCode [0xC3#8, 0x50#8, 0x01#8] vectorState
    let idle := withInterrupts 0x00#8 0x00#5 false (vectorState.setHalted true)
    let irq := withInterrupts 0x10#8 0x10#5 true vectorState
    (s.inputs = [] ∧ ¬((delivered s).haltBug = true ∧ (delivered s).cpu.haltBugLatch = true) ∧ executes (delivered s) = true
      ∧ decodeAt (memRead s s.cpu.pc) (memRead s (s.cpu.pc + 1#16)) (memRead s (s.cpu.pc + 2#16)) = .jp_a16 0x0150#16)
      ∧ ((delivered idle).cpu.halted = true ∧ (delivered idle).pend = 0#5)
      ∧ (delivered irq).cpu.ime = true ∧ 4 < 5 ∧ (delivered irq).intr.ie.getLsbD 4 = true
      ∧ (delivered irq).intr.flags.getLsbD 4 = true
      ∧ ∀ j, j < 4 → ¬((delivered irq).intr.ie.getLsbD j = true ∧ (delivered irq).intr.flags.getLsbD j = true) := by
  decide +kernel

/-- Its clause on the HALT-bug fetch. -/
theorem test_witness_StepRunsDecodedInstruction_halt_bug :
    let s := ({ withCode [0x3C#8] vectorState with haltBug := true } : State).setHaltBugLatch true
    (delivered s).haltBug = true ∧ (delivered s).cpu.haltBugLatch = true ∧ executes (delivered s) = true
      ∧ decodeAt (memRead s s.cpu.pc) (memRead s s.cpu.pc) (memRead s (s.cpu.pc + 1#16)) = .inc_a := by decide +kernel

/-- Its clauses on the host's events: one not due, and two that are, at the boundary of their tag. -/
theorem test_witness_StepRunsDecodedInstruction_events :
    vectorState.stepIndex < (⟨1, .setButtons 0x10#8⟩ : HostEvent).before
      ∧ ({ vectorState with inputs := [⟨0, .setButtons 0x10#8⟩, ⟨0, .takeFrame⟩] } : State).inputs
          = ⟨0, .setButtons 0x10#8⟩ :: [⟨0, .takeFrame⟩]
      ∧ ({ vectorState with inputs := [⟨0, .takeFrame⟩] } : State).inputs = ⟨0, .takeFrame⟩ :: []
      ∧ 0 ≤ vectorState.stepIndex := by decide

/-- The decode hypotheses of `StepRunsDecodedInstruction`, in their own form. -/
theorem test_witness_StepRunsDecodedInstruction_decode : decode [0xC3#8, 0x50#8, 0x01#8] = .ok (.jp_a16 0x0150#16, [])
    ∧ decode [0x3C#8, 0x3C#8, 0x00#8] = .ok (.inc_a, [0x3C#8, 0x00#8]) := ⟨rfl, rfl⟩

/-- Idle; dispatching the last source, though halted; executing; the HALT-bug fetch; the plain fetch. -/
theorem test_witness_CpuStepOutcomes :
    let idle := withInterrupts 0x00#8 0x00#5 false (vectorState.setHalted true)
    let irq := withInterrupts 0x1F#8 0x10#5 true (vectorState.setHalted true)
    let bug := ({ vectorState with haltBug := true } : State).setHaltBugLatch true
    (idle.cpu.halted = true ∧ idle.pend = 0#5)
      ∧ (irq.cpu.ime = true ∧ 4 < 5 ∧ irq.intr.ie.getLsbD 4 = true ∧ irq.intr.flags.getLsbD 4 = true
        ∧ ∀ j, j < 4 → ¬(irq.intr.ie.getLsbD j = true ∧ irq.intr.flags.getLsbD j = true))
      ∧ executes vectorState = true ∧ (bug.haltBug = true ∧ bug.cpu.haltBugLatch = true)
      ∧ ¬(vectorState.haltBug = true ∧ vectorState.cpu.haltBugLatch = true) := by decide +kernel

/-- The first and the last source. -/
theorem test_witness_InterruptDispatch :
    (∀ i ∈ [0, 4], let s := withInterrupts 0x1F#8 (BitVec.ofNat 5 (2 ^ i)) true vectorState
      s.cpu.ime = true ∧ i < 5 ∧ s.intr.ie.getLsbD i = true ∧ s.intr.flags.getLsbD i = true
        ∧ ∀ j, j < i → ¬(s.intr.ie.getLsbD j = true ∧ s.intr.flags.getLsbD j = true)) := by decide +kernel

/-- EI with the latch clear; the instruction after it, a NOP and a DI; EI with HALT_BUG true, its latch clear and set. -/
theorem test_witness_EiDelay :
    let s := withCode [0xFB#8] (withInterrupts 0x04#8 0x04#5 false vectorState)
    let u := withCode [0x00#8] (s.setImePending true)
    let d := withCode [0xF3#8] (s.setImePending true)
    let b : State := { s with haltBug := true }
    (s.cpu.ime = false ∧ executes s = true ∧ s.cpu.imePending = false ∧ fetchInstr s = .ei)
      ∧ (u.cpu.ime = false ∧ executes u = true ∧ u.cpu.imePending = true ∧ fetchInstr u = .nop)
      ∧ (d.cpu.ime = false ∧ executes d = true ∧ d.cpu.imePending = true ∧ fetchInstr d = .di)
      ∧ (b.cpu.ime = false ∧ executes b = true ∧ b.cpu.imePending = false ∧ fetchInstr b = .ei)
      ∧ (b.setHaltBugLatch true).cpu.haltBugLatch = true ∧ executes (b.setHaltBugLatch true) = true
      ∧ fetchInstr (b.setHaltBugLatch true) = .ei := by
  decide +kernel

/-- Disabled; enabled with period 16 and the count at its bound of 255. -/
theorem test_witness_TimerCountsPeriods :
    let s := { vectorState with timer := ⟨0x0000#16, 0xFD#8, 0x00#8, 0b101#3⟩ }
    (16 = 2 ^ (([9, 3, 5, 7] : List Nat).getD (s.timer.tac.toNat % 4) 0 + 1) ∧ s.timer.tac.getLsbD 2 = true
      ∧ s.timer.tima.toNat + ((s.timer.divCounter.toNat + 47) / 16 - s.timer.divCounter.toNat / 16) = 255)
      ∧ 1024 = 2 ^ (([9, 3, 5, 7] : List Nat).getD (vectorState.timer.tac.toNat % 4) 0 + 1)
      ∧ vectorState.timer.tac.getLsbD 2 = false := by decide +kernel

theorem test_witness_TimaOverflowReloads :
    ({ vectorState with timer := ⟨0x0000#16, 0xFF#8, 0x00#8, 0b101#3⟩ } : State).timer.tima = 0xFF#8
      ∧ vectorState.timer.tima ≠ 0xFF#8 := by decide +kernel

/-- The last dot of a frame and the first. -/
theorem test_witness_PpuPositionAfterDots :
    (let s := atDot 153 455 vectorState;
      lcdOn s.ppu = true ∧ s.ppu.ly < 154 ∧ s.ppu.lx < 456 ∧ s.ppu.mode = modeAt s.ppu.ly s.ppu.lx)
      ∧ lcdOn vectorState.ppu = true ∧ vectorState.ppu.ly < 154 ∧ vectorState.ppu.lx < 456
      ∧ vectorState.ppu.mode = modeAt vectorState.ppu.ly vectorState.ppu.lx := by decide +kernel

theorem test_witness_VblankOncePerFrame :
    (let s := atDot 143 455 vectorState;
      lcdOn s.ppu = true ∧ s.ppu.ly < 154 ∧ s.ppu.lx < 456 ∧ (s.ppu.ly = 143 ∧ s.ppu.lx = 455))
      ∧ ¬(vectorState.ppu.ly = 143 ∧ vectorState.ppu.lx = 455) := by decide +kernel

theorem test_witness_StatInterruptOnRisingEdge : lcdOn vectorState.ppu = true := by decide +kernel

/-- Off, on, and no change, both ways. -/
theorem test_witness_LcdSwitch :
    (lcdOn vectorState.ppu = true ∧ (0x11#8).getLsbD 7 = false) ∧ (lcdOn lcdOffState.ppu = false ∧ (0x91#8).getLsbD 7 = true)
      ∧ lcdOn vectorState.ppu = (0x91#8).getLsbD 7 ∧ lcdOn lcdOffState.ppu = (0x11#8).getLsbD 7 := by decide +kernel

/-- Eleven sprites on line 0: entry 39 is on the line and not among the ten kept. -/
theorem test_witness_OamScanKeepsFirstTen :
    let p := { vectorState.ppu with oam := ((List.range 10).map fun i => (4 * i, 0x10#8)) ++ [(156, 0x10#8)] }
    (Memory.read p.oam (4 * 39)).toNat ≤ p.ly + 16 ∧ p.ly + 16 < (Memory.read p.oam (4 * 39)).toNat + 8
      ∧ ∀ e ∈ (oamScan p).sprites, e.index ≠ 39 := by decide +kernel

/-- Column 159 of line 143, the scene of the witnesses below: LCDC `lcdc`, the window at WX = 166, tiles with every pixel
1, and three sprites over column 159, the first of them transparent. -/
def scene (lcdc : Byte) : Ppu :=
  { (atDot 143 251 vectorState).ppu with
    lcdc := lcdc, wx := 166#8, wy := 143#8, bgp := 0xE4#8, obp0 := 0xE4#8, obp1 := 0x1B#8
    vram := [(0x10, 0xFF#8), (0x1800, 0x01#8), (0x1C00, 0x01#8)]
    sprites := [⟨0, 159#8, 160#8, 0x00#8, 0x00#8⟩, ⟨1, 159#8, 161#8, 0x01#8, 0x10#8⟩, ⟨2, 159#8, 161#8, 0x01#8, 0x00#8⟩] }

/-- The background off; the window at its last position; the background; sprites off, and one shown between a transparent
one before it and one of the same X after it. -/
theorem test_witness_RenderedLine :
    let p := scene 0xF3#8
    159 < 160 ∧ p.ly < 144 ∧ (scene 0xF2#8).lcdc.getLsbD 0 = false ∧ (scene 0xF1#8).lcdc.getLsbD 1 = false
      ∧ (p.lcdc.getLsbD 0 = true ∧ p.lcdc.getLsbD 5 = true ∧ p.wy.toNat ≤ p.ly ∧ p.wx.toNat ≤ 159 + 7)
      ∧ ¬(p.wx.toNat ≤ 158 + 7) ∧ p.wx.toNat ≤ 166
      ∧ (p.lcdc.getLsbD 1 = true
        ∧ p.sprites = [⟨0, 159#8, 160#8, 0x00#8, 0x00#8⟩] ++ ⟨1, 159#8, 161#8, 0x01#8, 0x10#8⟩
            :: [⟨2, 159#8, 161#8, 0x01#8, 0x00#8⟩]
        ∧ p.sprites.map (spriteColour p 159) = [0, 1, 1]) := by decide +kernel

/-- Where the statement's last parts change the PPU: dots 79 and 251 of a visible line; both ends of VBlank. -/
theorem test_witness_RenderedLine_dots :
    (let s := atDot 143 251 vectorState; lcdOn s.ppu = true ∧ s.ppu.ly < 144 ∧ s.ppu.lx = 251)
      ∧ (let s := atDot 0 79 vectorState; lcdOn s.ppu = true ∧ s.ppu.ly < 144 ∧ s.ppu.lx = 79)
      ∧ (let s := atDot 144 0 vectorState; lcdOn s.ppu = true ∧ 144 ≤ s.ppu.ly)
      ∧ (let s := atDot 153 455 vectorState; lcdOn s.ppu = true ∧ 144 ≤ s.ppu.ly ∧ s.ppu.ly = 153 ∧ s.ppu.lx = 455) := by decide +kernel

/-- The window and the sprite over it (48_ppu.md R329, R330): the window counter advances, the sprite's OBP1 shade shows. -/
theorem test_window_and_sprite :
    (renderLine (scene 0xF3#8)).windowLine = 1 ∧ linePixel (scene 0xF3#8) 159 = 2#2
      ∧ linePixel (scene 0xF1#8) 159 = 1#2 ∧ linePixel (scene 0xF0#8) 159 = 0#2 := by decide +kernel

theorem test_witness_SkipBootRegisters : Launch.default.boot = none := rfl

/-- A launch without BOOT, one with BOOT, and an image that makes a launch. -/
theorem test_witness_ResetInvariant :
    let l := { Launch.default with boot := some [(0, 0x31#8)] }
    Launch.default.imagesWf = true ∧ Launch.default.boot = none ∧ l.imagesWf = true ∧ l.boot = some [(0, 0x31#8)] := by
  decide +kernel

/-- An image of 32 KiB, without BOOT and with one. -/
theorem test_witness_ResetInvariant_image : ∀ boot ∈ [none, some (List.replicate 256 0x31#8)],
    (Launch.ofImage (List.replicate 0x8000 0x00#8) boot false).isSome = true := by
  have len : (List.replicate 0x8000 0x00#8).length = 0x8000 := List.length_replicate
  have kind : (List.replicate 0x8000 0x00#8).getD 0x0147 Config.unlistedByte = 0x00#8 := by
    rw [List.getD_eq_getElem _ _ (by rw [len]; decide), List.getElem_replicate]
  intro boot h
  rw [Launch.ofImage, kind, len]
  revert h boot
  decide +kernel

/-- The invariant holds of a state with the LCD off, and a step from it answers. -/
theorem test_witness_StepKeepsInvariant : Invariant lcdOffState ∧ ∃ t, step lcdOffState = .next t :=
  ⟨by constructor <;> decide +kernel, (next_of_after (p := fun _ => true) (by decide +kernel)).imp fun _ h => h.1⟩

end Sys2Proof.Tests
end

section
/-! SUPPORT. The register file in the terms of 10_state.md R20 to R24: a register write changes one CPU field, the pairs are
numbers of two bytes, AF masks F's low nibble. -/

namespace Sys2Proof.Machine

theorem maskFlags_eq_ofNat (v : Byte) : maskFlags v = BitVec.ofNat 8 (v.toNat / 16 * 16) := by
  revert v
  decide +kernel

theorem maskFlags_toNat (v : Byte) : (maskFlags v).toNat = v.toNat / 16 * 16 := by
  have := v.isLt
  rw [maskFlags_eq_ofNat, BitVec.toNat_ofNat]
  omega

theorem setReg_sameOutsideCpu (s : State) (r : Reg8) (v : Byte) : sameOutsideCpu s (s.setReg r v) := by
  simp [sameOutsideCpu]

/-- AF as a number (R21, R22): F's low nibble reads zero. -/
theorem pair2_af_toNat (s : State) : (s.pair2 .af).toNat = s.cpu.a.toNat * 256 + s.cpu.f.toNat / 16 * 16 := by
  rw [State.pair2, joinBytes_toNat, maskFlags_toNat]

theorem setPair_bc_eq (s : State) (v : Word) : s.setPair .bc v =
    { s with cpu := { s.cpu with b := BitVec.ofNat 8 (v.toNat / 256), c := BitVec.ofNat 8 (v.toNat % 256) } } := by
  rw [State.setPair, hiByte_eq_ofNat, loByte_eq_ofNat]

theorem setPair_de_eq (s : State) (v : Word) : s.setPair .de v =
    { s with cpu := { s.cpu with d := BitVec.ofNat 8 (v.toNat / 256), e := BitVec.ofNat 8 (v.toNat % 256) } } := by
  rw [State.setPair, hiByte_eq_ofNat, loByte_eq_ofNat]

theorem setPair_hl_eq (s : State) (v : Word) : s.setPair .hl v =
    { s with cpu := { s.cpu with h := BitVec.ofNat 8 (v.toNat / 256), l := BitVec.ofNat 8 (v.toNat % 256) } } := by
  rw [State.setPair, hiByte_eq_ofNat, loByte_eq_ofNat]

theorem setPair2_af_eq (s : State) (v : Word) : s.setPair2 .af v =
    { s with cpu := { s.cpu with
        a := BitVec.ofNat 8 (v.toNat / 256), f := BitVec.ofNat 8 (v.toNat % 256 / 16 * 16) } } := by
  rw [State.setPair2, State.setF, State.setReg, hiByte_eq_ofNat, maskFlags_eq_ofNat, loByte_toNat]

/-- Settles O12: the frame of a register write by the laws of `setReg`, the pairs as numbers, and the names as
definitions. -/
theorem registerFile : Obligations.RegisterFile := by
  intro s r b v
  refine ⟨fun r' => reg_setReg s r r' b, setReg_cpu_f s r b, setReg_cpu_sp s r b, setReg_cpu_pc s r b,
    setReg_cpu_ime s r b, setReg_cpu_imePending s r b, setReg_cpu_halted s r b, setReg_cpu_illegalSeen s r b,
    setReg_cpu_illegalOp s r b, setReg_cpu_haltBugLatch s r b, setReg_sameOutsideCpu s r b, setReg_cycles s r b,
    joinBytes_toNat _ _, joinBytes_toNat _ _, joinBytes_toNat _ _, rfl, pair2_af_toNat s,
    setPair_bc_eq s v, setPair_de_eq s v, setPair_hl_eq s v, rfl, setPair2_af_eq s v, ?_⟩
  and_intros <;> rfl

end Sys2Proof.Machine
end

section
/-! SUPPORT. The I/O registers through the bus (10_state.md R41): the bus hands 0xFF00-0xFF7F to `ioRead` and `ioWrite`,
and the values that the packed registers read, as numbers. -/

namespace Sys2Proof.Machine

/-! The packed registers, as numbers. -/

theorem ones_append_tac_toNat (t : BitVec 3) : (0b11111#5 ++ t).toNat = 0xF8 + t.toNat := by
  revert t
  decide

theorem ones_append_flags_toNat (f : BitVec 5) : (0b111#3 ++ f).toNat = 0xE0 + f.toNat := by
  revert f
  decide

/-- The four fields of STAT side by side (48_ppu.md R302). -/
theorem statFields_toNat (en : BitVec 4) (eq : Bool) (m : BitVec 2) :
    (1#1 ++ en ++ BitVec.ofBool eq ++ m).toNat = 0x80 + en.toNat * 8 + (if eq then 4 else 0) + m.toNat := by
  revert en eq m
  decide

theorem statRead_toNat (p : Ppu) : (statRead p).toNat =
    0x80 + p.statEn.toNat * 8 + (if p.ly = p.lyc.toNat then 4 else 0) + p.mode.code.toNat := by
  rw [statRead, statFields_toNat]
  simp only [coincidence, decide_eq_true_eq]

/-- The three fields of P1 side by side (60_exceptions.md R380): bits 7 and 6 read 1, then the selection. -/
theorem p1Read_toNat_div (j : Joypad) : (p1Read j).toNat / 16 = 12 + j.sel.toNat := by
  have fields : ∀ (sel : BitVec 2) (low : BitVec 4), (0b11#2 ++ sel ++ low).toNat / 16 = 12 + sel.toNat := by decide
  exact fields j.sel (p1Low j)

/-- The low nibble of P1: a button of an exposed group, pressed, reads 0. -/
theorem p1Read_getLsbD (j : Joypad) {n : Nat} (hn : n < 4) : (p1Read j).getLsbD n =
    !((!j.sel.getLsbD 0 && j.buttons.getLsbD n) || (!j.sel.getLsbD 1 && j.buttons.getLsbD (n + 4))) := by
  have hlow : (p1Read j).getLsbD n = (p1Low j).getLsbD n := by
    rw [p1Read, BitVec.getLsbD_append, if_pos hn]
  rw [hlow, p1Low]
  cases j.sel.getLsbD 0 <;> cases j.sel.getLsbD 1 <;> interval_cases n <;> simp

theorem lcdcWrite_lcdc (v : Byte) (p : Ppu) : (lcdcWrite v p).lcdc = v := by
  unfold lcdcWrite
  dsimp only
  split_ifs <;> rfl

/-! The registers through the bus. -/

/-- The DMA register reads the byte written to it; OAM, which the same write fills, is not read back here. -/
theorem oamDma_dma (v : Byte) (s : State) : (oamDma v s).ppu.dma = v := by
  obtain ⟨m, hm, -⟩ := oamDma_eq v s
  rw [hm]

/-- P1 reads the selection just written, whatever the joypad's edge detector held. -/
theorem memRead_memWrite_p1 (s : State) (v : Byte) :
    memRead (memWrite s 0xFF00#16 v) 0xFF00#16 = p1Read { s.joypad with sel := v.extractLsb' 4 2 } := by
  obtain ⟨f, hf⟩ := joypadUpdate_eq { s with joypad := { s.joypad with sel := v.extractLsb' 4 2 } }
  change p1Read (p1Write v s).joypad = _
  rw [p1Write, hf]
  rfl

theorem memWrite_bootOverlay (s : State) (v : Byte) :
    memWrite s 0xFF50#16 v = { s with bootOn := s.bootOn && decide (v = 0x00#8) } := by
  change (if v = 0x00#8 then s else { s with bootOn := false }) = _
  split <;> simp [*]

/-- The registers that read back the whole byte written. -/
theorem memRead_memWrite_wholeByte (s : State) (v : Byte) :
    ∀ a ∈ [0xFF05#16, 0xFF06#16, 0xFF40#16, 0xFF42#16, 0xFF43#16, 0xFF45#16, 0xFF46#16, 0xFF47#16, 0xFF48#16, 0xFF49#16,
      0xFF4A#16, 0xFF4B#16, 0xFFFF#16], memRead (memWrite s a v) a = v := by
  simp only [List.forall_mem_cons]
  exact ⟨rfl, rfl, lcdcWrite_lcdc v s.ppu, rfl, rfl, rfl, oamDma_dma v s, rfl, rfl, rfl, rfl, rfl, rfl, List.forall_mem_nil _⟩

/-- The registers that are read whole, and the constant 0xFF of the boot overlay's register. -/
theorem memRead_wholeByte (s : State) :
    ∀ r ∈ [(0xFF05#16, s.timer.tima), (0xFF06#16, s.timer.tma), (0xFF40#16, s.ppu.lcdc), (0xFF42#16, s.ppu.scy),
      (0xFF43#16, s.ppu.scx), (0xFF45#16, s.ppu.lyc), (0xFF46#16, s.ppu.dma), (0xFF47#16, s.ppu.bgp),
      (0xFF48#16, s.ppu.obp0), (0xFF49#16, s.ppu.obp1), (0xFF4A#16, s.ppu.wy), (0xFF4B#16, s.ppu.wx),
      (0xFF50#16, 0xFF#8), (0xFF44#16, BitVec.ofNat 8 s.ppu.ly), (0xFFFF#16, s.intr.ie)], memRead s r.1 = r.2 := by
  simp only [List.forall_mem_cons]
  exact ⟨rfl, rfl, rfl, rfl, rfl, rfl, rfl, rfl, rfl, rfl, rfl, rfl, rfl, rfl, rfl, List.forall_mem_nil _⟩

theorem memRead_tac_toNat (s : State) : (memRead s 0xFF07#16).toNat = 0xF8 + s.timer.tac.toNat :=
  ones_append_tac_toNat s.timer.tac

theorem memRead_if_toNat (s : State) : (memRead s 0xFF0F#16).toNat = 0xE0 + s.intr.flags.toNat :=
  ones_append_flags_toNat s.intr.flags

theorem memRead_stat_toNat (s : State) : (memRead s 0xFF41#16).toNat =
    0x80 + s.ppu.statEn.toNat * 8 + (if s.ppu.ly = s.ppu.lyc.toNat then 4 else 0) + s.ppu.mode.code.toNat :=
  statRead_toNat s.ppu

theorem memWrite_tac (s : State) (v : Byte) :
    memWrite s 0xFF07#16 v = { s with timer := { s.timer with tac := BitVec.ofNat 3 v.toNat } } := by
  rw [BitVec.ofNat_toNat]
  rfl

theorem memWrite_if (s : State) (v : Byte) :
    memWrite s 0xFF0F#16 v = { s with intr := { s.intr with flags := BitVec.ofNat 5 v.toNat } } := by
  rw [BitVec.ofNat_toNat]
  rfl

theorem memWrite_stat (s : State) (v : Byte) :
    memWrite s 0xFF41#16 v = { s with ppu := { s.ppu with statEn := BitVec.ofNat 4 (v.toNat / 8) } } := by
  have hen : v.extractLsb' 3 4 = BitVec.ofNat 4 (v.toNat / 8) := by rw [BitVec.extractLsb', Nat.shiftRight_eq_div_pow]
  rw [← hen]
  rfl

/-- Settles O41: the plain registers by the map itself, the packed ones by their numbers, and P1, LCDC, DMA and the boot
overlay by what their writes do. -/
theorem ioRegisterReadAfterWrite : Obligations.IoRegisterReadAfterWrite := by
  intro s v
  refine ⟨memRead_memWrite_wholeByte s v, ?p1High, ?p1Low, ?tac, ?intrFlags, ?div, rfl, ?stat, rfl, rfl, ?boot,
    memRead_wholeByte s, hiByte_toNat _, memRead_tac_toNat s, memRead_if_toNat s, memRead_stat_toNat s,
    rfl, rfl, rfl, rfl, rfl, rfl, rfl, memWrite_tac s v, memWrite_if s v, memWrite_stat s v, rfl, rfl, rfl, rfl, rfl,
    rfl, rfl, rfl, rfl, memWrite_bootOverlay s v, rfl⟩
  case p1High =>
    rw [memRead_memWrite_p1, p1Read_toNat_div, BitVec.extractLsb'_toNat, Nat.shiftRight_eq_div_pow]
  case p1Low =>
    intro n hn
    rw [memRead_memWrite_p1, p1Read_getLsbD _ hn]
    simp
  case tac => rw [memRead_tac_toNat, memWrite_tac, BitVec.toNat_ofNat]
  case intrFlags => rw [memRead_if_toNat, memWrite_if, BitVec.toNat_ofNat]
  case div =>
    change hiByte 0x0000#16 = 0x00#8
    decide
  case stat => rw [memRead_stat_toNat, memWrite_stat, BitVec.toNat_ofNat]
  case boot => rw [memWrite_bootOverlay]

end Sys2Proof.Machine
end

section
/-! SUPPORT. What one instruction, one CPU step and one machine step can do, said once, and the two statements about the
CPU's control state and the sticky state that follow from it. -/

namespace Sys2Proof.Machine

/-! Inversion of the step functions. -/

/-- Everything an instruction can do: a chain of effects, or one of the instructions that touch the control state. -/
theorem exec_cases {i : Instr} {s t : State} (h : exec i s = .next t) :
    Effects s t
      ∨ (i = .halt ∧ ∃ halted latch, t = ((s.setHalted halted).setHaltBugLatch latch).spend 4)
      ∨ (i = .di ∧ t = ((s.setIme false).setImePending false).spend 4)
      ∨ (i = .ei ∧ t = (s.setImePending true).spend 4)
      ∨ (i = .reti ∧ t = (returnFromInterrupt s).spend 16)
      ∨ ∃ op, (i, op) ∈ undefinedOpcodes ∧ t = (raiseIllegal op s).spend 4 := by
  by_cases hc : controlState i
  · right
    obtain rfl | rfl | rfl | rfl | ⟨op, hop⟩ := hc
    · obtain rfl := Host.Outcome.next.inj h
      refine .inl ⟨rfl, ?_⟩
      split
      · exact ⟨_, _, rfl⟩
      · exact ⟨true, s.cpu.haltBugLatch, rfl⟩
    · exact .inr (.inl ⟨rfl, (Host.Outcome.next.inj h).symm⟩)
    · exact .inr (.inr (.inl ⟨rfl, (Host.Outcome.next.inj h).symm⟩))
    · exact .inr (.inr (.inr (.inl ⟨rfl, (Host.Outcome.next.inj h).symm⟩)))
    · rw [exec_undefined hop] at h
      exact .inr (.inr (.inr (.inr ⟨op, hop, (Host.Outcome.next.inj h).symm⟩)))
  · exact .inl (exec_effects h hc)

theorem executeOne_next {s t : State} (h : executeOne s = .next t) :
    ∃ u, exec (fetchInstr s) (instrFetched s) = .next u ∧ t = promoteEi s.cpu.imePending u := by
  unfold executeOne at h
  split at h
  · next u hu => exact ⟨u, hu, (Host.Outcome.next.inj h).symm⟩
  · cases h
  · cases h

/-- The three outcomes of a CPU step: idle, an interrupt dispatch, one instruction (49_machine_step.md R280, R281). -/
theorem cpuStep_next {s t : State} (h : cpuStep s = .next t) :
    t = s.spend Config.idleCycles ∨ t = takeInterrupt (highestPriority s.pend) (s.setHalted false)
      ∨ executeOne (s.setHalted false) = .next t := by
  unfold cpuStep at h
  split at h
  · exact .inl (Host.Outcome.next.inj h).symm
  · dsimp only at h
    split at h
    · exact .inr (.inl (Host.Outcome.next.inj h).symm)
    · exact .inr (.inr h)

theorem step_next {s t : State} (h : step s = .next t) :
    ∃ u, cpuStep (delivered s) = .next u ∧ t = tickDevices u := by
  unfold step machineStep at h
  split at h
  · next u hu => exact ⟨u, hu, (Host.Outcome.next.inj h).symm⟩
  · cases h
  · cases h

/-! The CPU's control state. -/

/-- The CPU's control state (10_state.md R25 to R30): IME, the EI latch, `halted`, the HALT-bug latch, the undefined-opcode
pair. -/
def Cpu.control (c : Cpu) : Bool × Bool × Bool × Bool × Bool × Byte :=
  (c.ime, c.imePending, c.halted, c.haltBugLatch, c.illegalSeen, c.illegalOp)

theorem Cpu.control_eq_iff (c d : Cpu) : d.control = c.control ↔
    d.ime = c.ime ∧ d.imePending = c.imePending ∧ d.halted = c.halted ∧ d.haltBugLatch = c.haltBugLatch
      ∧ d.illegalSeen = c.illegalSeen ∧ d.illegalOp = c.illegalOp := by
  simp only [Cpu.control, Prod.mk.injEq]

/-- No effect touches the control state. -/
theorem Effects.control {s t : State} (h : Effects s t) : t.cpu.control = s.cpu.control := by
  induction h with
  | none => rfl
  | reg r _ _ ih => cases r <;> exact ih
  | pair p _ _ ih => cases p <;> exact ih
  | write _ _ _ ih => rw [memWrite_cpu, ih]
  | flags _ _ ih => exact ih
  | pc _ _ ih => exact ih
  | sp _ _ ih => exact ih
  | spend _ _ ih => exact ih

/-- Settles O37: every instruction is a chain of effects, which keep the control state, or one of those that the statement
names, whose next states are written out. -/
theorem controlStateFrame : Obligations.ControlStateFrame := by
  intro i s t h
  obtain he | ⟨rfl, _, _, rfl⟩ | ⟨rfl, rfl⟩ | ⟨rfl, rfl⟩ | ⟨rfl, rfl⟩ | ⟨op, hop, rfl⟩ := exec_cases h
  · obtain ⟨hime, hpending, hhalted, hlatch, hseen, hop⟩ := (Cpu.control_eq_iff _ _).1 he.control
    exact ⟨fun _ _ => hime, fun _ _ => hpending, fun _ => ⟨hhalted, hlatch⟩, fun _ => ⟨hseen, hop⟩⟩
  · exact ⟨fun _ _ => rfl, fun _ _ => rfl, fun hne => absurd rfl hne, fun _ => ⟨rfl, rfl⟩⟩
  · exact ⟨fun hne => absurd rfl hne, fun hne => absurd rfl hne, fun _ => ⟨rfl, rfl⟩, fun _ => ⟨rfl, rfl⟩⟩
  · exact ⟨fun _ _ => rfl, fun _ hne => absurd rfl hne, fun _ => ⟨rfl, rfl⟩, fun _ => ⟨rfl, rfl⟩⟩
  · exact ⟨fun _ hne => absurd rfl hne, fun _ _ => rfl, fun _ => ⟨rfl, rfl⟩, fun _ => ⟨rfl, rfl⟩⟩
  · exact ⟨fun _ _ => rfl, fun _ _ => rfl, fun _ => ⟨rfl, rfl⟩, fun hdef => absurd hop (hdef op)⟩

/-! The launch parameters and the sticky state. -/

/-- What every part of a machine step keeps: the launch parameters, the boot overlay once off, the undefined-opcode flag
once set, and, until the step's end, the step index. -/
structure KeepsSticky (s t : State) : Prop where
  launch : sameLaunch s t
  bootOff : s.bootOn = false → t.bootOn = false
  illegal : s.cpu.illegalSeen = true → t.cpu.illegalSeen = true
  stepIndex : t.stepIndex = s.stepIndex

theorem KeepsSticky.refl (s : State) : KeepsSticky s s := ⟨⟨rfl, rfl, rfl, rfl, rfl⟩, id, id, rfl⟩

theorem KeepsSticky.trans {s t u : State} (h : KeepsSticky s t) (h' : KeepsSticky t u) : KeepsSticky s u := by
  obtain ⟨⟨htype, hbanks, hrom, hboot, hbug⟩, hoff, hill, hidx⟩ := h
  obtain ⟨⟨htype', hbanks', hrom', hboot', hbug'⟩, hoff', hill', hidx'⟩ := h'
  exact ⟨⟨htype'.trans htype, hbanks'.trans hbanks, hrom'.trans hrom, hboot'.trans hboot, hbug'.trans hbug⟩,
    hoff' ∘ hoff, hill' ∘ hill, hidx'.trans hidx⟩

/-- A change of anything but the cartridge, the boot overlay, HALT_BUG, the sticky flag and the step index. -/
theorem KeepsSticky.of_eq {s t : State} (hcart : t.cart = s.cart) (hboot : t.boot = s.boot) (hon : t.bootOn = s.bootOn)
    (hbug : t.haltBug = s.haltBug) (hill : t.cpu.illegalSeen = s.cpu.illegalSeen) (hidx : t.stepIndex = s.stepIndex) :
    KeepsSticky s t where
  launch := by simp only [sameLaunch, hcart, hboot, hbug, and_self]
  bootOff := hon.trans
  illegal := hill.trans
  stepIndex := hidx

theorem joypadUpdate_bootOn (s : State) : (joypadUpdate s).bootOn = s.bootOn := by
  obtain ⟨f, hf⟩ := joypadUpdate_eq s
  rw [hf]

theorem oamDma_bootOn (v : Byte) (s : State) : (oamDma v s).bootOn = s.bootOn := by
  obtain ⟨m, hm, -⟩ := oamDma_eq v s
  rw [hm]

/-- No write to an I/O register brings the boot overlay back (20_memory.md R78). -/
theorem ioWrite_bootOff {s : State} (a : Nat) (v : Byte) (h : s.bootOn = false) : (ioWrite s a v).bootOn = false := by
  unfold ioWrite
  split
  case h_1 => exact (joypadUpdate_bootOn _).trans h
  case h_12 => exact (oamDma_bootOn v s).trans h
  case h_18 =>
    split
    · exact h
    · rfl
  all_goals exact h

theorem memWrite_bootOff {s : State} (a : Word) (v : Byte) (h : s.bootOn = false) : (memWrite s a v).bootOn = false := by
  unfold memWrite busWrite
  cases regionOf a.toNat
  case io => exact ioWrite_bootOff _ v h
  case vram =>
    dsimp only
    split <;> exact h
  case oam =>
    dsimp only
    split <;> exact h
  all_goals exact h

theorem memWrite_keepsSticky (s : State) (a : Word) (v : Byte) : KeepsSticky s (memWrite s a v) := by
  have hcore := memWrite_core s a v
  exact ⟨⟨hcore.cartType, hcore.banks, hcore.rom, hcore.boot, hcore.haltBug⟩, memWrite_bootOff a v,
    fun h => by rw [hcore.cpu, h], hcore.stepIndex⟩

theorem Effects.keepsSticky {s t : State} (h : Effects s t) : KeepsSticky s t := by
  induction h with
  | none => exact .refl _
  | write _ _ _ ih => exact ih.trans (memWrite_keepsSticky _ _ _)
  | reg r _ _ ih => exact ih.trans (by constructor <;> simp [sameLaunch])
  | pair p _ _ ih => exact ih.trans (by constructor <;> simp [sameLaunch])
  | flags _ _ ih => exact ih.trans (.of_eq rfl rfl rfl rfl rfl rfl)
  | pc _ _ ih => exact ih.trans (.of_eq rfl rfl rfl rfl rfl rfl)
  | sp _ _ ih => exact ih.trans (.of_eq rfl rfl rfl rfl rfl rfl)
  | spend _ _ ih => exact ih.trans (.of_eq rfl rfl rfl rfl rfl rfl)

theorem exec_keepsSticky {i : Instr} {s t : State} (h : exec i s = .next t) : KeepsSticky s t := by
  obtain he | ⟨-, _, _, rfl⟩ | ⟨-, rfl⟩ | ⟨-, rfl⟩ | ⟨-, rfl⟩ | ⟨op, -, rfl⟩ := exec_cases h
  · exact he.keepsSticky
  · exact .of_eq rfl rfl rfl rfl rfl rfl
  · exact .of_eq rfl rfl rfl rfl rfl rfl
  · exact .of_eq rfl rfl rfl rfl rfl rfl
  · exact .of_eq rfl rfl rfl rfl rfl rfl
  · exact ⟨⟨rfl, rfl, rfl, rfl, rfl⟩, id, fun _ => rfl, rfl⟩

theorem opcodeFetched_keepsSticky (s : State) : KeepsSticky s (opcodeFetched s) := by
  unfold opcodeFetched
  split <;> exact .of_eq rfl rfl rfl rfl rfl rfl

theorem instrFetched_keepsSticky (s : State) : KeepsSticky s (instrFetched s) :=
  (opcodeFetched_keepsSticky s).trans (.of_eq rfl rfl rfl rfl rfl rfl)

theorem promoteEi_keepsSticky (latch : Bool) (s : State) : KeepsSticky s (promoteEi latch s) := by
  unfold promoteEi
  split
  · exact .of_eq rfl rfl rfl rfl rfl rfl
  · exact .refl s

theorem executeOne_keepsSticky {s t : State} (h : executeOne s = .next t) : KeepsSticky s t := by
  obtain ⟨u, hu, rfl⟩ := executeOne_next h
  exact ((instrFetched_keepsSticky s).trans (exec_keepsSticky hu)).trans (promoteEi_keepsSticky _ u)

/-- A dispatch clears the latches and an IF bit; the rest of it is a chain of effects (49_machine_step.md R282). -/
theorem takeInterrupt_effects (i : Source) (s : State) :
    Effects { (s.setIme false).setImePending false with intr := { s.intr with flags := s.intr.flags &&& ~~~i.mask } }
      (takeInterrupt i s) :=
  (((Effects.none _).push _).pc _).spend _

theorem takeInterrupt_keepsSticky (i : Source) (s : State) : KeepsSticky s (takeInterrupt i s) := by
  refine .trans ?_ (takeInterrupt_effects i s).keepsSticky
  exact .of_eq rfl rfl rfl rfl rfl rfl

theorem cpuStep_keepsSticky {s t : State} (h : cpuStep s = .next t) : KeepsSticky s t := by
  have hwake : KeepsSticky s (s.setHalted false) := .of_eq rfl rfl rfl rfl rfl rfl
  obtain rfl | rfl | hexec := cpuStep_next h
  · exact .of_eq rfl rfl rfl rfl rfl rfl
  · exact hwake.trans (takeInterrupt_keepsSticky _ _)
  · exact hwake.trans (executeOne_keepsSticky hexec)

theorem hostAct_keepsSticky (e : HostAction) (s : State) : KeepsSticky s (hostAct e s) := by
  cases e with
  | setButtons b =>
    obtain ⟨f, hf⟩ := joypadUpdate_eq { s with joypad := { s.joypad with buttons := b } }
    rw [hostAct, setButtons, hf]
    exact .of_eq rfl rfl rfl rfl rfl rfl
  | takeFrame => exact .of_eq rfl rfl rfl rfl rfl rfl

theorem deliverFrom_keepsSticky (es : List HostEvent) (s : State) : KeepsSticky s (deliverFrom es s) := by
  induction es generalizing s with
  | nil => exact .of_eq rfl rfl rfl rfl rfl rfl
  | cons e es ih =>
    unfold deliverFrom
    split
    · exact (hostAct_keepsSticky e.action s).trans (ih _)
    · exact .of_eq rfl rfl rfl rfl rfl rfl

/-- Everything the devices' ticks can do. -/
theorem tickDevices_eq (s : State) : ∃ timer intr ppu,
    tickDevices s = { s with timer := timer, intr := intr, ppu := ppu, stepIndex := s.stepIndex + 1 } := by
  obtain ⟨tima, f, htimer⟩ := timerTick_eq s.cycles s
  obtain ⟨p, g, hppu, -⟩ := ppuTick_eq s.cycles (timerTick s.cycles s)
  exact ⟨_, _, _, by rw [tickDevices, hppu, htimer]⟩

/-- Settles O44: the host's events and the CPU step keep the launch parameters, the sticky state and the step index; the
devices' ticks touch none of them but the step index, which they raise once. -/
theorem stepKeepsLaunchAndStickyState : Obligations.StepKeepsLaunchAndStickyState := by
  intro s t h
  obtain ⟨u, hu, rfl⟩ := step_next h
  obtain ⟨hlaunch, hboot, hill, hidx⟩ := (deliverFrom_keepsSticky s.inputs s).trans (cpuStep_keepsSticky hu)
  obtain ⟨timer, intr, ppu, hticked⟩ := tickDevices_eq u
  rw [hticked]
  exact ⟨hlaunch, hboot, hill, congrArg (· + 1) hidx⟩

end Sys2Proof.Machine
end

section
/-! SUPPORT. The rows of the address table (20_memory.md R61 to R63): what a bus read answers and what a bus write does in
each, and the statements about closed windows and the cartridge that follow. -/

namespace Sys2Proof.Machine

/-- The address numbers of a row (R61). -/
def Region.contains : Region → Nat → Prop
  | .rom0, a => a ≤ 0x3FFF
  | .romN, a => 0x4000 ≤ a ∧ a ≤ 0x7FFF
  | .vram, a => 0x8000 ≤ a ∧ a ≤ 0x9FFF
  | .cartRam, a => 0xA000 ≤ a ∧ a ≤ 0xBFFF
  | .wram, a => 0xC000 ≤ a ∧ a ≤ 0xDFFF
  | .echo, a => 0xE000 ≤ a ∧ a ≤ 0xFDFF
  | .oam, a => 0xFE00 ≤ a ∧ a ≤ 0xFE9F
  | .prohibited, a => 0xFEA0 ≤ a ∧ a ≤ 0xFEFF
  | .io, a => 0xFF00 ≤ a ∧ a ≤ 0xFF7F
  | .hram, a => 0xFF80 ≤ a ∧ a ≤ 0xFFFE
  | .ie, a => 0xFFFF ≤ a

theorem regionOf_contains (a : Nat) : (regionOf a).contains a := by
  have h := regionOf_bounds a
  cases hr : regionOf a <;> rw [hr] at h <;> exact h

/-- The rows exclude each other. -/
theorem regionOf_eq {r : Region} {a : Nat} (h : r.contains a) : regionOf a = r := by
  have h' := regionOf_contains a
  generalize regionOf a = r' at h'
  cases r <;> cases r' <;> simp only [Region.contains] at h h' <;> first | rfl | omega

/-! Reads, row by row. -/

theorem memRead_rom0 (s : State) {a : Word} (h : a.toNat ≤ 0x3FFF) : memRead s a =
    if a.toNat ≤ 0x00FF ∧ s.bootOn = true then Memory.read s.boot a.toNat else Memory.read s.cart.rom a.toNat := by
  rw [memRead, busRead, regionOf_eq (r := .rom0) h]

theorem memRead_romN (s : State) {a : Word} (h : 0x4000 ≤ a.toNat ∧ a.toNat ≤ 0x7FFF) :
    memRead s a = romBankRead s.cart a.toNat := by
  rw [memRead, busRead, regionOf_eq (r := .romN) h]

theorem memRead_vram (s : State) {a : Word} (h : 0x8000 ≤ a.toNat ∧ a.toNat ≤ 0x9FFF) : memRead s a =
    if vramBlocked s.ppu then 0xFF#8 else Memory.read s.ppu.vram (a.toNat - 0x8000) := by
  rw [memRead, busRead, regionOf_eq (r := .vram) h]

theorem memRead_cartRam (s : State) {a : Word} (h : 0xA000 ≤ a.toNat ∧ a.toNat ≤ 0xBFFF) :
    memRead s a = cartRamRead s.cart a.toNat := by
  rw [memRead, busRead, regionOf_eq (r := .cartRam) h]

/-- An echo address has the cell of the WRAM address 0x2000 below it (R66). -/
theorem cellOf_echo {a : Word} (h : 0xE000 ≤ a.toNat ∧ a.toNat ≤ 0xFDFF) : cellOf a = a.toNat - 0x2000 := if_pos h

theorem cellOf_of_not_echo {a : Word} (h : ¬(0xE000 ≤ a.toNat ∧ a.toNat ≤ 0xFDFF)) : cellOf a = a.toNat := if_neg h

/-- WRAM and its echo in one (R66). -/
theorem memRead_wram (s : State) {a : Word} (h : 0xC000 ≤ a.toNat ∧ a.toNat ≤ 0xFDFF) :
    memRead s a = Memory.read s.wram (cellOf a - 0xC000) := by
  by_cases he : 0xE000 ≤ a.toNat ∧ a.toNat ≤ 0xFDFF
  · rw [cellOf_echo he, Nat.sub_sub, memRead, busRead, regionOf_eq (r := .echo) he]
  · have hw : 0xC000 ≤ a.toNat ∧ a.toNat ≤ 0xDFFF := by omega
    rw [cellOf_of_not_echo he, memRead, busRead, regionOf_eq (r := .wram) hw]

theorem memRead_oam (s : State) {a : Word} (h : 0xFE00 ≤ a.toNat ∧ a.toNat ≤ 0xFE9F) : memRead s a =
    if oamBlocked s.ppu then 0xFF#8 else Memory.read s.ppu.oam (a.toNat - 0xFE00) := by
  rw [memRead, busRead, regionOf_eq (r := .oam) h]

theorem memRead_prohibited (s : State) {a : Word} (h : 0xFEA0 ≤ a.toNat ∧ a.toNat ≤ 0xFEFF) : memRead s a = 0xFF#8 := by
  rw [memRead, busRead, regionOf_eq (r := .prohibited) h]

theorem memRead_io (s : State) {a : Word} (h : 0xFF00 ≤ a.toNat ∧ a.toNat ≤ 0xFF7F) : memRead s a = ioRead s a.toNat := by
  rw [memRead, busRead, regionOf_eq (r := .io) h]

theorem memRead_hram (s : State) {a : Word} (h : 0xFF80 ≤ a.toNat ∧ a.toNat ≤ 0xFFFE) :
    memRead s a = Memory.read s.hram (a.toNat - 0xFF80) := by
  rw [memRead, busRead, regionOf_eq (r := .hram) h]

theorem memRead_ie (s : State) {a : Word} (h : a.toNat = 0xFFFF) : memRead s a = s.intr.ie := by
  rw [memRead, busRead, regionOf_eq (r := .ie) h.ge]

/-! Writes, row by row. -/

/-- Both ROM rows hand a write to the cartridge's bank controller. -/
theorem memWrite_rom (s : State) {a : Word} (v : Byte) (h : a.toNat ≤ 0x7FFF) :
    memWrite s a v = { s with cart := cartRegWrite s.cart a.toNat v } := by
  by_cases h0 : a.toNat ≤ 0x3FFF
  · rw [memWrite, busWrite, regionOf_eq (r := .rom0) h0]
  · rw [memWrite, busWrite, regionOf_eq (r := .romN) ⟨by omega, h⟩]

theorem memWrite_vram (s : State) {a : Word} (v : Byte) (h : 0x8000 ≤ a.toNat ∧ a.toNat ≤ 0x9FFF) : memWrite s a v =
    if vramBlocked s.ppu then s
    else { s with ppu := { s.ppu with vram := Memory.write s.ppu.vram (a.toNat - 0x8000) v } } := by
  rw [memWrite, busWrite, regionOf_eq (r := .vram) h]

theorem memWrite_cartRam (s : State) {a : Word} (v : Byte) (h : 0xA000 ≤ a.toNat ∧ a.toNat ≤ 0xBFFF) :
    memWrite s a v = { s with cart := cartRamWrite s.cart a.toNat v } := by
  rw [memWrite, busWrite, regionOf_eq (r := .cartRam) h]

/-- WRAM and its echo in one (R66). -/
theorem memWrite_wram (s : State) {a : Word} (v : Byte) (h : 0xC000 ≤ a.toNat ∧ a.toNat ≤ 0xFDFF) :
    memWrite s a v = { s with wram := Memory.write s.wram (cellOf a - 0xC000) v } := by
  by_cases he : 0xE000 ≤ a.toNat ∧ a.toNat ≤ 0xFDFF
  · rw [cellOf_echo he, Nat.sub_sub, memWrite, busWrite, regionOf_eq (r := .echo) he]
  · have hw : 0xC000 ≤ a.toNat ∧ a.toNat ≤ 0xDFFF := by omega
    rw [cellOf_of_not_echo he, memWrite, busWrite, regionOf_eq (r := .wram) hw]

theorem memWrite_oam (s : State) {a : Word} (v : Byte) (h : 0xFE00 ≤ a.toNat ∧ a.toNat ≤ 0xFE9F) : memWrite s a v =
    if oamBlocked s.ppu then s
    else { s with ppu := { s.ppu with oam := Memory.write s.ppu.oam (a.toNat - 0xFE00) v } } := by
  rw [memWrite, busWrite, regionOf_eq (r := .oam) h]
  rfl

theorem memWrite_prohibited (s : State) {a : Word} (v : Byte) (h : 0xFEA0 ≤ a.toNat ∧ a.toNat ≤ 0xFEFF) :
    memWrite s a v = s := by
  rw [memWrite, busWrite, regionOf_eq (r := .prohibited) h]

theorem memWrite_io (s : State) {a : Word} (v : Byte) (h : 0xFF00 ≤ a.toNat ∧ a.toNat ≤ 0xFF7F) :
    memWrite s a v = ioWrite s a.toNat v := by
  rw [memWrite, busWrite, regionOf_eq (r := .io) h]

theorem memWrite_hram (s : State) {a : Word} (v : Byte) (h : 0xFF80 ≤ a.toNat ∧ a.toNat ≤ 0xFFFE) :
    memWrite s a v = { s with hram := Memory.write s.hram (a.toNat - 0xFF80) v } := by
  rw [memWrite, busWrite, regionOf_eq (r := .hram) h]

theorem memWrite_ie (s : State) {a : Word} (v : Byte) (h : a.toNat = 0xFFFF) :
    memWrite s a v = { s with intr := { s.intr with ie := v } } := by
  rw [memWrite, busWrite, regionOf_eq (r := .ie) h.ge]

/-! Unlisted I/O addresses (R77). -/

/-- The addresses of 0xFF00-0xFF7F that no register has, and LY (10_state.md R41). -/
def unwrittenIo (a : Nat) : Prop :=
  (0xFF01 ≤ a ∧ a ≤ 0xFF03) ∨ (0xFF08 ≤ a ∧ a ≤ 0xFF0E) ∨ (0xFF10 ≤ a ∧ a ≤ 0xFF3F) ∨ a = 0xFF44
    ∨ (0xFF4C ≤ a ∧ a ≤ 0xFF4F) ∨ (0xFF51 ≤ a ∧ a ≤ 0xFF7F)

theorem unwrittenIo.row {a : Nat} (h : unwrittenIo a) : 0xFF00 ≤ a ∧ a ≤ 0xFF7F := by
  unfold unwrittenIo at h
  omega

theorem ioWrite_unwritten (s : State) {a : Nat} (v : Byte) (h : unwrittenIo a) : ioWrite s a v = s := by
  unfold unwrittenIo at h
  unfold ioWrite
  split
  case h_19 => rfl
  all_goals omega

theorem ioRead_unlisted (s : State) {a : Nat} (h : unwrittenIo a) (hly : a ≠ 0xFF44) : ioRead s a = 0xFF#8 := by
  unfold unwrittenIo at h
  unfold ioRead
  split
  case h_19 => rfl
  all_goals omega

/-! The cartridge port. -/

theorem cartRegWrite_romOnly {k : Cartridge} (a : Nat) (v : Byte) (h : k.cartType = .romOnly) : cartRegWrite k a v = k := by
  rw [cartRegWrite, h]

/-- Cartridge RAM that is absent or disabled reads 0xFF (R85, R90). -/
theorem cartRamRead_absent {k : Cartridge} (a : Nat) (h : k.cartType = .romOnly ∨ k.ramEnable = false) :
    cartRamRead k a = 0xFF#8 := by
  unfold cartRamRead
  split
  · rfl
  · next hmbc =>
    have hoff : k.ramEnable = false := h.resolve_left (by simp [hmbc])
    simp [hoff]

/-- Cartridge RAM that is absent, disabled or a clock register keeps its state (R85, R91). -/
theorem cartRamWrite_inert {k : Cartridge} (a : Nat) (v : Byte)
    (h : k.cartType = .romOnly ∨ k.ramEnable = false ∨ 3 < k.ramBank.toNat) : cartRamWrite k a v = k := by
  unfold cartRamWrite
  split
  · rfl
  · next hmbc =>
    rw [if_neg]
    simp only [Bool.and_eq_true, decide_eq_true_eq]
    rintro ⟨hen, hbank⟩
    obtain h | h | h := h
    · simp [h] at hmbc
    · simp [h] at hen
    · omega

theorem cartRamRead_bank {k : Cartridge} (a : Nat) (hmbc : k.cartType = .mbc3) (hen : k.ramEnable = true)
    (hbank : k.ramBank.toNat ≤ 3) : cartRamRead k a = Memory.read k.cram (cramIndex k a) := by
  simp only [cartRamRead, hmbc, hen, Bool.not_true, Bool.false_eq_true, if_false, if_pos hbank]

theorem cartRamRead_clock {k : Cartridge} (a : Nat) (hmbc : k.cartType = .mbc3) (hen : k.ramEnable = true)
    (hbank : 3 < k.ramBank.toNat) : cartRamRead k a = k.rtcLatched.read k.ramBank := by
  simp only [cartRamRead, hmbc, hen, Bool.not_true, Bool.false_eq_true, if_false, if_neg (Nat.not_le.2 hbank)]

theorem cartRamWrite_bank {k : Cartridge} (a : Nat) (v : Byte) (hmbc : k.cartType = .mbc3) (hen : k.ramEnable = true)
    (hbank : k.ramBank.toNat ≤ 3) :
    cartRamWrite k a v = { k with cram := Memory.write k.cram (cramIndex k a) v } := by
  simp only [cartRamWrite, hmbc, hen, Bool.true_and, decide_eq_true_eq, if_pos hbank]

/-! The closed windows. -/

/-- The kinds of inert address (R61, R63, R77, R85, R91). -/
theorem inertAddress_cases {s : State} {a : Word} (h : inertAddress s a = true) :
    (a.toNat ≤ 0x7FFF ∧ s.cart.cartType = .romOnly)
      ∨ ((0x8000 ≤ a.toNat ∧ a.toNat ≤ 0x9FFF) ∧ vramBlocked s.ppu = true)
      ∨ ((0xA000 ≤ a.toNat ∧ a.toNat ≤ 0xBFFF)
        ∧ (s.cart.cartType = .romOnly ∨ s.cart.ramEnable = false ∨ 3 < s.cart.ramBank.toNat))
      ∨ ((0xFE00 ≤ a.toNat ∧ a.toNat ≤ 0xFE9F) ∧ oamBlocked s.ppu = true)
      ∨ (0xFEA0 ≤ a.toNat ∧ a.toNat ≤ 0xFEFF)
      ∨ unwrittenIo a.toNat := by
  simpa only [inertAddress, unwrittenIo, Bool.or_eq_true, Bool.and_eq_true, decide_eq_true_eq, Bool.not_eq_true', or_assoc]
    using h

theorem memWrite_inert {s : State} {a : Word} (v : Byte) (h : inertAddress s a = true) : memWrite s a v = s := by
  obtain ⟨hrow, hrom⟩ | ⟨hrow, hclosed⟩ | ⟨hrow, hram⟩ | ⟨hrow, hclosed⟩ | hrow | hio := inertAddress_cases h
  · rw [memWrite_rom s v hrow, cartRegWrite_romOnly _ v hrom]
  · rw [memWrite_vram s v hrow, if_pos hclosed]
  · rw [memWrite_cartRam s v hrow, cartRamWrite_inert _ v hram]
  · rw [memWrite_oam s v hrow, if_pos hclosed]
  · exact memWrite_prohibited s v hrow
  · rw [memWrite_io s v hio.row, ioWrite_unwritten s v hio]

/-- Above ROM, and but for LY and the cartridge RAM window, an inert address reads 0xFF. -/
theorem memRead_inert {s : State} {a : Word} (h : inertAddress s a = true) (habove : 0x8000 ≤ a.toNat)
    (hly : a.toNat ≠ 0xFF44) (hram : ¬(0xA000 ≤ a.toNat ∧ a.toNat ≤ 0xBFFF)) : memRead s a = 0xFF#8 := by
  obtain ⟨hrow, -⟩ | ⟨hrow, hclosed⟩ | ⟨hrow, -⟩ | ⟨hrow, hclosed⟩ | hrow | hio := inertAddress_cases h
  · omega
  · rw [memRead_vram s hrow, if_pos hclosed]
  · exact absurd hrow hram
  · rw [memRead_oam s hrow, if_pos hclosed]
  · exact memRead_prohibited s hrow
  · rw [memRead_io s hio.row, ioRead_unlisted s hio hly]

/-- Settles O39: the two windows as the definitions give them, then each kind of inert address by its row's laws. -/
theorem inertAddresses : Obligations.InertAddresses := by
  intro s
  refine ⟨rfl, rfl, fun a v h => ⟨memWrite_inert v h, memRead_inert h, fun hlo hhi habsent => ?_⟩⟩
  rw [memRead_cartRam s ⟨hlo, hhi⟩, cartRamRead_absent _ habsent]

theorem decodeAt_ff (d1 d2 : Byte) : decodeAt 0xFF#8 d1 d2 = .rst_38 := rfl

/-- Settles O40: the opcode read from a closed window is 0xFF, whatever the two bytes after it. -/
theorem fetchFromClosedWindowIsRst38 : Obligations.FetchFromClosedWindowIsRst38 := by
  intro s hon
  refine ⟨fun hlo hhi hmode => ?_, fun hlo hhi hmode => ?_⟩
  · have hclosed : vramBlocked s.ppu = true := by simp [vramBlocked, hon, hmode]
    rw [fetchInstr, memRead_vram s ⟨hlo, hhi⟩, if_pos hclosed, decodeAt_ff]
  · have hclosed : oamBlocked s.ppu = true := by simpa [oamBlocked, hon] using hmode
    rw [fetchInstr, memRead_oam s ⟨hlo, hhi⟩, if_pos hclosed, decodeAt_ff]

/-! The MBC3 (R86 to R91). -/

theorem cartRegWrite_ramEnable {k : Cartridge} {a : Nat} (v : Byte) (hmbc : k.cartType = .mbc3) (h : a ≤ 0x1FFF) :
    cartRegWrite k a v = { k with ramEnable := decide (v.toNat % 16 = 10) } := by
  have hlow : (v &&& 0x0F#8 = 0x0A#8) = (v.toNat % 16 = 10) := by revert v; decide +kernel
  simp only [cartRegWrite, hmbc, if_pos h, hlow]

theorem cartRegWrite_romBank {k : Cartridge} {a : Nat} (v : Byte) (hmbc : k.cartType = .mbc3)
    (h : 0x2000 ≤ a ∧ a ≤ 0x3FFF) :
    cartRegWrite k a v = { k with romBank := if v.toNat % 128 = 0 then 1#7 else BitVec.ofNat 7 v.toNat } := by
  have hlow : (v &&& 0x7F#8 = 0x00#8) = (v.toNat % 128 = 0) := by revert v; decide +kernel
  have h1 : ¬a ≤ 0x1FFF := by omega
  simp only [cartRegWrite, hmbc, if_neg h1, if_pos h.2, hlow, BitVec.ofNat_toNat]

theorem cartRegWrite_ramBank {k : Cartridge} {a : Nat} (v : Byte) (hmbc : k.cartType = .mbc3)
    (h : 0x4000 ≤ a ∧ a ≤ 0x5FFF) : cartRegWrite k a v =
      { k with ramBank := if v.toNat ≤ 3 ∨ (8 ≤ v.toNat ∧ v.toNat ≤ 12) then v else k.ramBank } := by
  have h1 : ¬a ≤ 0x1FFF := by omega
  have h2 : ¬a ≤ 0x3FFF := by omega
  simp only [cartRegWrite, hmbc, if_neg h1, if_neg h2, if_pos h.2]
  split
  · rfl
  · rw [← hmbc]

theorem cartRegWrite_rtcLatch {k : Cartridge} {a : Nat} (v : Byte) (hmbc : k.cartType = .mbc3) (h : 0x6000 ≤ a) :
    cartRegWrite k a v = { k with
      rtcLatchPrev := v
      rtcLatched := if k.rtcLatchPrev = 0x00#8 ∧ v = 0x01#8 then RtcRegs.zero else k.rtcLatched } := by
  have h1 : ¬a ≤ 0x1FFF := by omega
  have h2 : ¬a ≤ 0x3FFF := by omega
  have h3 : ¬a ≤ 0x5FFF := by omega
  simp only [cartRegWrite, hmbc, if_neg h1, if_neg h2, if_neg h3]

/-- A latched clock register, by its code in `ram_bank` (R89, R90). -/
theorem memRead_clock {s : State} {a : Word} (hmbc : s.cart.cartType = .mbc3) (hrow : 0xA000 ≤ a.toNat ∧ a.toNat ≤ 0xBFFF)
    (hen : s.cart.ramEnable = true) {code : Byte} (hcode : 3 < code.toNat) (hbank : s.cart.ramBank = code) :
    memRead s a = s.cart.rtcLatched.read code := by
  rw [memRead_cartRam s hrow, cartRamRead_clock _ hmbc hen (hbank ▸ hcode), hbank]

/-- Settles O42: ROM reads by their rows, the four control windows of `cartRegWrite`, and the cartridge RAM window by what
`ram_enable` and `ram_bank` select. -/
theorem mbc3Banking : Obligations.Mbc3Banking := by
  intro s a v
  refine ⟨memRead_rom0 s, fun hrom hlo hhi => ?_, fun hmbc => ?_, rfl⟩
  · rw [memRead_romN s ⟨hlo, hhi⟩, romBankRead, hrom]
  have hcart (h : a.toNat ≤ 0x7FFF) : (memWrite s a v).cart = cartRegWrite s.cart a.toNat v := by
    rw [memWrite_rom s v h]
  refine ⟨fun hhi => ?ramEnable, fun hlo hhi => ?romBank, fun hlo hhi => ?ramBank, fun hlo hhi => ?rtcLatch,
    fun hhi => ?frame, fun hlo hhi => ?romRead, fun hlo hhi => ?ramWindow⟩
  case ramEnable => rw [hcart (by omega), cartRegWrite_ramEnable v hmbc hhi]
  case romBank => rw [hcart (by omega), cartRegWrite_romBank v hmbc ⟨hlo, hhi⟩]
  case ramBank => rw [hcart (by omega), cartRegWrite_ramBank v hmbc ⟨hlo, hhi⟩]
  case rtcLatch => rw [hcart hhi, cartRegWrite_rtcLatch v hmbc hlo]
  case frame => rw [hcart hhi, memWrite_rom s v hhi]
  case romRead => rw [memRead_romN s ⟨hlo, hhi⟩, romBankRead, hmbc]
  case ramWindow =>
    have hrow : 0xA000 ≤ a.toNat ∧ a.toNat ≤ 0xBFFF := ⟨hlo, hhi⟩
    refine ⟨fun hoff => ⟨?_, ?_⟩, fun hen hbank => ⟨?_, ?_⟩, fun hen => memRead_clock hmbc hrow hen (by decide),
      fun hen => memRead_clock hmbc hrow hen (by decide), fun hen => memRead_clock hmbc hrow hen (by decide),
      fun hen => memRead_clock hmbc hrow hen (by decide), fun hen => memRead_clock hmbc hrow hen (by decide),
      fun hen hbank => ?_⟩
    · rw [memRead_cartRam s hrow, cartRamRead_absent _ (.inr hoff)]
    · rw [memWrite_cartRam s v hrow, cartRamWrite_inert _ v (.inr (.inl hoff))]
    · rw [memRead_cartRam s hrow, cartRamRead_bank _ hmbc hen hbank]; rfl
    · rw [memWrite_cartRam s v hrow, cartRamWrite_bank _ v hmbc hen hbank]; rfl
    · rw [memWrite_cartRam s v hrow, cartRamWrite_inert _ v (.inr (.inr (by omega)))]

end Sys2Proof.Machine
end

section
/-! SUPPORT. Plain cells (20_memory.md R62, R63, R66): what a bus write to one does, that no other cell reads differently
after it, and that it closes no other cell. -/

namespace Sys2Proof.Machine

/-- The kinds of plain cell (R62, R63). -/
inductive PlainCell (s : State) (a : Word) : Prop where
  | vram (row : 0x8000 ≤ a.toNat ∧ a.toNat ≤ 0x9FFF) (opened : vramBlocked s.ppu = false)
  | cartRam (row : 0xA000 ≤ a.toNat ∧ a.toNat ≤ 0xBFFF) (mbc3 : s.cart.cartType = .mbc3)
      (enabled : s.cart.ramEnable = true) (bank : s.cart.ramBank.toNat ≤ 3)
  | wram (row : 0xC000 ≤ a.toNat ∧ a.toNat ≤ 0xFDFF)
  | oam (row : 0xFE00 ≤ a.toNat ∧ a.toNat ≤ 0xFE9F) (opened : oamBlocked s.ppu = false)
  | hram (row : 0xFF80 ≤ a.toNat ∧ a.toNat ≤ 0xFFFE)
  | ie (row : a.toNat = 0xFFFF)

theorem plainCell_cases {s : State} {a : Word} (h : plainCell s a = true) : PlainCell s a := by
  simp only [plainCell, Bool.or_eq_true, Bool.and_eq_true, decide_eq_true_eq, Bool.not_eq_true'] at h
  obtain (((⟨row, hopen⟩ | ⟨⟨⟨row, hmbc⟩, hen⟩, hbank⟩) | row) | ⟨row, hopen⟩) | row := h
  · exact .vram row hopen
  · exact .cartRam row hmbc hen hbank
  · exact .wram row
  · exact .oam row hopen
  · have := a.isLt
    by_cases hie : a.toNat = 0xFFFF
    · exact .ie hie
    · exact .hram ⟨row, by omega⟩

section
variable {s : State} {a : Word}

theorem memRead_vram_open (row : 0x8000 ≤ a.toNat ∧ a.toNat ≤ 0x9FFF) (hopen : vramBlocked s.ppu = false) :
    memRead s a = Memory.read s.ppu.vram (a.toNat - 0x8000) := by
  rw [memRead_vram s row, hopen, if_neg Bool.false_ne_true]

theorem memWrite_vram_open (v : Byte) (row : 0x8000 ≤ a.toNat ∧ a.toNat ≤ 0x9FFF) (hopen : vramBlocked s.ppu = false) :
    memWrite s a v = { s with ppu := { s.ppu with vram := Memory.write s.ppu.vram (a.toNat - 0x8000) v } } := by
  rw [memWrite_vram s v row, hopen, if_neg Bool.false_ne_true]

theorem memRead_oam_open (row : 0xFE00 ≤ a.toNat ∧ a.toNat ≤ 0xFE9F) (hopen : oamBlocked s.ppu = false) :
    memRead s a = Memory.read s.ppu.oam (a.toNat - 0xFE00) := by
  rw [memRead_oam s row, hopen, if_neg Bool.false_ne_true]

theorem memWrite_oam_open (v : Byte) (row : 0xFE00 ≤ a.toNat ∧ a.toNat ≤ 0xFE9F) (hopen : oamBlocked s.ppu = false) :
    memWrite s a v = { s with ppu := { s.ppu with oam := Memory.write s.ppu.oam (a.toNat - 0xFE00) v } } := by
  rw [memWrite_oam s v row, hopen, if_neg Bool.false_ne_true]

theorem memRead_ramBank (row : 0xA000 ≤ a.toNat ∧ a.toNat ≤ 0xBFFF) (hmbc : s.cart.cartType = .mbc3)
    (hen : s.cart.ramEnable = true) (hbank : s.cart.ramBank.toNat ≤ 3) :
    memRead s a = Memory.read s.cart.cram (cramIndex s.cart a.toNat) := by
  rw [memRead_cartRam s row, cartRamRead_bank _ hmbc hen hbank]

theorem memWrite_ramBank (v : Byte) (row : 0xA000 ≤ a.toNat ∧ a.toNat ≤ 0xBFFF) (hmbc : s.cart.cartType = .mbc3)
    (hen : s.cart.ramEnable = true) (hbank : s.cart.ramBank.toNat ≤ 3) : memWrite s a v =
      { s with cart := { s.cart with cram := Memory.write s.cart.cram (cramIndex s.cart a.toNat) v } } := by
  rw [memWrite_cartRam s v row, cartRamWrite_bank _ v hmbc hen hbank]

/-! A read after a write in the same row. -/

variable {b : Word}

theorem memRead_memWrite_vram (v : Byte) (row : 0x8000 ≤ a.toNat ∧ a.toNat ≤ 0x9FFF)
    (rowb : 0x8000 ≤ b.toNat ∧ b.toNat ≤ 0x9FFF) (hopen : vramBlocked s.ppu = false) : memRead (memWrite s a v) b =
      Memory.read (Memory.write s.ppu.vram (a.toNat - 0x8000) v) (b.toNat - 0x8000) := by
  rw [memWrite_vram_open v row hopen, memRead_vram _ rowb]
  exact if_neg (Bool.not_eq_true _ ▸ hopen)

theorem memRead_memWrite_oam (v : Byte) (row : 0xFE00 ≤ a.toNat ∧ a.toNat ≤ 0xFE9F)
    (rowb : 0xFE00 ≤ b.toNat ∧ b.toNat ≤ 0xFE9F) (hopen : oamBlocked s.ppu = false) : memRead (memWrite s a v) b =
      Memory.read (Memory.write s.ppu.oam (a.toNat - 0xFE00) v) (b.toNat - 0xFE00) := by
  rw [memWrite_oam_open v row hopen, memRead_oam _ rowb]
  exact if_neg (Bool.not_eq_true _ ▸ hopen)

theorem memRead_memWrite_ramBank (v : Byte) (row : 0xA000 ≤ a.toNat ∧ a.toNat ≤ 0xBFFF)
    (rowb : 0xA000 ≤ b.toNat ∧ b.toNat ≤ 0xBFFF) (hmbc : s.cart.cartType = .mbc3) (hen : s.cart.ramEnable = true)
    (hbank : s.cart.ramBank.toNat ≤ 3) : memRead (memWrite s a v) b =
      Memory.read (Memory.write s.cart.cram (cramIndex s.cart a.toNat) v) (cramIndex s.cart b.toNat) := by
  rw [memWrite_ramBank v row hmbc hen hbank, memRead_cartRam _ rowb]
  exact cartRamRead_bank (k := { s.cart with cram := _ }) _ hmbc hen hbank

theorem memRead_memWrite_wram (v : Byte) (row : 0xC000 ≤ a.toNat ∧ a.toNat ≤ 0xFDFF)
    (rowb : 0xC000 ≤ b.toNat ∧ b.toNat ≤ 0xFDFF) : memRead (memWrite s a v) b =
      Memory.read (Memory.write s.wram (cellOf a - 0xC000) v) (cellOf b - 0xC000) := by
  rw [memWrite_wram s v row, memRead_wram _ rowb]

theorem memRead_memWrite_hram (v : Byte) (row : 0xFF80 ≤ a.toNat ∧ a.toNat ≤ 0xFFFE)
    (rowb : 0xFF80 ≤ b.toNat ∧ b.toNat ≤ 0xFFFE) : memRead (memWrite s a v) b =
      Memory.read (Memory.write s.hram (a.toNat - 0xFF80) v) (b.toNat - 0xFF80) := by
  rw [memWrite_hram s v row, memRead_hram _ rowb]

end

/-- A write to a plain cell changes nothing that says which addresses are plain cells. -/
theorem plainCell_memWrite {s : State} {a : Word} (v : Byte) (h : plainCell s a = true) (b : Word) :
    plainCell (memWrite s a v) b = plainCell s b := by
  cases plainCell_cases h with
  | vram row hopen => rw [memWrite_vram_open v row hopen]; rfl
  | cartRam row hmbc hen hbank => rw [memWrite_ramBank v row hmbc hen hbank]; rfl
  | wram row => rw [memWrite_wram s v row]; rfl
  | oam row hopen => rw [memWrite_oam_open v row hopen]; rfl
  | hram row => rw [memWrite_hram s v row]; rfl
  | ie row => rw [memWrite_ie s v row]; rfl

/-- The cell of an address of WRAM or its echo is a WRAM address (R66). -/
theorem cellOf_of_wram {a : Word} (row : 0xC000 ≤ a.toNat ∧ a.toNat ≤ 0xFDFF) :
    0xC000 ≤ cellOf a ∧ cellOf a ≤ 0xDFFF := by
  unfold cellOf
  split <;> omega

/-- Two addresses of one cell read the same, in any state: the same address, or WRAM and its echo. -/
theorem memRead_of_cellOf_eq (s : State) {a b : Word} (h : cellOf b = cellOf a) : memRead s b = memRead s a := by
  by_cases heq : b = a
  · rw [heq]
  · have hne : b.toNat ≠ a.toNat := fun e => heq (BitVec.eq_of_toNat_eq e)
    have rows : (0xC000 ≤ b.toNat ∧ b.toNat ≤ 0xFDFF) ∧ (0xC000 ≤ a.toNat ∧ a.toNat ≤ 0xFDFF) := by
      unfold cellOf at h
      split_ifs at h <;> omega
    rw [memRead_wram s rows.1, memRead_wram s rows.2, h]

/-- A write to a plain cell changes what no other cell reads: in the row of `a` the byte of another index, in the other rows
nothing that a read there looks at. -/
theorem memRead_memWrite_otherCell {s : State} {a b : Word} (v : Byte) (h : plainCell s a = true)
    (hne : cellOf b ≠ cellOf a) : memRead (memWrite s a v) b = memRead s b := by
  have hb := regionOf_contains b.toNat
  have hidx : b.toNat ≠ a.toNat := fun e => hne (by rw [BitVec.eq_of_toNat_eq e])
  cases plainCell_cases h with
  | vram row hopen =>
    cases hr : regionOf b.toNat <;> rw [hr] at hb
    case vram =>
      have hcell : b.toNat - 0x8000 ≠ a.toNat - 0x8000 := by have := hb.1; omega
      rw [memRead_memWrite_vram v row hb hopen, Memory.read_write_other _ v hcell, memRead_vram_open hb hopen]
    all_goals rw [memWrite_vram_open v row hopen]; simp only [memRead, busRead, hr] <;> rfl
  | cartRam row hmbc hen hbank =>
    cases hr : regionOf b.toNat <;> rw [hr] at hb
    case cartRam =>
      have hcell : cramIndex s.cart b.toNat ≠ cramIndex s.cart a.toNat := by
        have := hb.1
        unfold cramIndex
        omega
      rw [memRead_memWrite_ramBank v row hb hmbc hen hbank, Memory.read_write_other _ v hcell,
        memRead_ramBank hb hmbc hen hbank]
    all_goals rw [memWrite_ramBank v row hmbc hen hbank]; simp only [memRead, busRead, hr] <;> rfl
  | wram row =>
    by_cases rowb : 0xC000 ≤ b.toNat ∧ b.toNat ≤ 0xFDFF
    · have hcell : cellOf b - 0xC000 ≠ cellOf a - 0xC000 := by
        have := cellOf_of_wram row
        have := cellOf_of_wram rowb
        omega
      rw [memRead_memWrite_wram v row rowb, Memory.read_write_other _ v hcell, memRead_wram s rowb]
    · cases hr : regionOf b.toNat <;> rw [hr] at hb
      case wram => exact absurd ⟨hb.1, hb.2.trans (by omega)⟩ rowb
      case echo => exact absurd ⟨.trans (by omega) hb.1, hb.2⟩ rowb
      all_goals rw [memWrite_wram s v row]; simp only [memRead, busRead, hr] <;> rfl
  | oam row hopen =>
    cases hr : regionOf b.toNat <;> rw [hr] at hb
    case oam =>
      have hcell : b.toNat - 0xFE00 ≠ a.toNat - 0xFE00 := by have := hb.1; omega
      rw [memRead_memWrite_oam v row hb hopen, Memory.read_write_other _ v hcell, memRead_oam_open hb hopen]
    all_goals rw [memWrite_oam_open v row hopen]; simp only [memRead, busRead, hr] <;> rfl
  | hram row =>
    cases hr : regionOf b.toNat <;> rw [hr] at hb
    case hram =>
      have hcell : b.toNat - 0xFF80 ≠ a.toNat - 0xFF80 := by have := hb.1; omega
      rw [memRead_memWrite_hram v row hb, Memory.read_write_other _ v hcell, memRead_hram s hb]
    all_goals rw [memWrite_hram s v row]; simp only [memRead, busRead, hr] <;> rfl
  | ie row =>
    cases hr : regionOf b.toNat <;> rw [hr] at hb
    case ie => exact absurd (Nat.le_antisymm (Nat.le_of_lt_succ b.isLt) hb |>.trans row.symm) hidx
    all_goals rw [memWrite_ie s v row]; simp only [memRead, busRead, hr] <;> rfl

/-- A plain cell reads the byte just written, in a state with canonical memories. -/
theorem memRead_memWrite_sameCell {s : State} {a : Word} (v : Byte) (hwf : s.memoryWf = true) (h : plainCell s a = true) :
    memRead (memWrite s a v) a = v := by
  obtain ⟨hvram, hoam, hwram, hhram, hcram, -, -⟩ := (memoryWf_iff s).1 hwf
  cases plainCell_cases h with
  | vram row hopen => rw [memRead_memWrite_vram v row row hopen, Memory.read_write_same hvram]
  | cartRam row hmbc hen hbank => rw [memRead_memWrite_ramBank v row row hmbc hen hbank, Memory.read_write_same hcram]
  | wram row => rw [memRead_memWrite_wram v row row, Memory.read_write_same hwram]
  | oam row hopen => rw [memRead_memWrite_oam v row row hopen, Memory.read_write_same hoam]
  | hram row => rw [memRead_memWrite_hram v row row, Memory.read_write_same hhram]
  | ie row => rw [memWrite_ie s v row, memRead_ie _ row]

/-- What a plain cell's row requires of the state. -/
theorem plainCell_vramOpen {s : State} {a : Word} (h : plainCell s a = true) (row : 0x8000 ≤ a.toNat ∧ a.toNat ≤ 0x9FFF) :
    vramBlocked s.ppu = false := by
  cases plainCell_cases h with
  | vram _ hopen => exact hopen
  | _ => omega

theorem plainCell_oamOpen {s : State} {a : Word} (h : plainCell s a = true) (row : 0xFE00 ≤ a.toNat ∧ a.toNat ≤ 0xFE9F) :
    oamBlocked s.ppu = false := by
  cases plainCell_cases h with
  | oam _ hopen => exact hopen
  | _ => omega

theorem plainCell_ramBank {s : State} {a : Word} (h : plainCell s a = true) (row : 0xA000 ≤ a.toNat ∧ a.toNat ≤ 0xBFFF) :
    s.cart.cartType = .mbc3 ∧ s.cart.ramEnable = true ∧ s.cart.ramBank.toNat ≤ 3 := by
  cases plainCell_cases h with
  | cartRam _ hmbc hen hbank => exact ⟨hmbc, hen, hbank⟩
  | _ => omega

/-- Settles O38: the cell just written and its echo read the value, the other cells as before; then each row's own law. -/
theorem plainWriteReadsBack : Obligations.PlainWriteReadsBack := by
  intro s a v h
  refine ⟨fun hwf b => ?_, fun hlo hhi => ?_, fun hlo hhi => ?_, fun hlo hhi => ?_, fun hlo hhi => ?_, fun hlo hhi => ?_,
    fun hie => ?_⟩
  · split
    · next hsame => rw [memRead_of_cellOf_eq _ hsame, memRead_memWrite_sameCell v hwf h]
    · next hother => exact memRead_memWrite_otherCell v h hother
  · have hopen := plainCell_vramOpen h ⟨hlo, hhi⟩
    exact ⟨memRead_vram_open ⟨hlo, hhi⟩ hopen, memWrite_vram_open v ⟨hlo, hhi⟩ hopen⟩
  · obtain ⟨hmbc, hen, hbank⟩ := plainCell_ramBank h ⟨hlo, hhi⟩
    exact ⟨memRead_ramBank ⟨hlo, hhi⟩ hmbc hen hbank, memWrite_ramBank v ⟨hlo, hhi⟩ hmbc hen hbank⟩
  · exact ⟨memRead_wram s ⟨hlo, hhi⟩, memWrite_wram s v ⟨hlo, hhi⟩⟩
  · have hopen := plainCell_oamOpen h ⟨hlo, hhi⟩
    exact ⟨memRead_oam_open ⟨hlo, hhi⟩ hopen, memWrite_oam_open v ⟨hlo, hhi⟩ hopen⟩
  · exact ⟨memRead_hram s ⟨hlo, hhi⟩, memWrite_hram s v ⟨hlo, hhi⟩⟩
  · exact ⟨memRead_ie s hie, memWrite_ie s v hie⟩

end Sys2Proof.Machine
end

section
/-! SUPPORT. What an instruction stores: every instruction completes, stores one byte to each of its `storedAddresses` and
changes nothing else outside the CPU. -/

namespace Sys2Proof.Machine

/-! What each family stores to. -/

/-- The address that a write of an 8-bit location stores to: HL for the byte at HL, none for a register (30_encoding.md
R113). -/
def locStored (x : Loc8) (s : State) : List Word :=
  match x with
  | .reg _ => []
  | .mhl => [s.hl]

theorem storedAddresses_alu (op : AluOp) (x : Operand8) (s : State) : storedAddresses (Instr.alu op x) s = [] := by
  cases op <;> rcases x with (⟨r⟩ | _) | _ <;> (try cases r) <;> rfl

theorem storedAddresses_incLoc (x : Loc8) (s : State) : storedAddresses (Instr.incLoc x) s = locStored x s := by
  rcases x with ⟨r⟩ | _ <;> (try cases r) <;> rfl

theorem storedAddresses_decLoc (x : Loc8) (s : State) : storedAddresses (Instr.decLoc x) s = locStored x s := by
  rcases x with ⟨r⟩ | _ <;> (try cases r) <;> rfl

theorem storedAddresses_addHl (p : Rp) (s : State) : storedAddresses (Instr.addHl p) s = [] := by cases p <;> rfl

theorem storedAddresses_incPair (p : Rp) (s : State) : storedAddresses (Instr.incPair p) s = [] := by cases p <;> rfl

theorem storedAddresses_decPair (p : Rp) (s : State) : storedAddresses (Instr.decPair p) s = [] := by cases p <;> rfl

theorem storedAddresses_rot (op : RotOp) (x : Loc8) (s : State) : storedAddresses (Instr.rot op x) s = locStored x s := by
  cases op <;> rcases x with ⟨r⟩ | _ <;> (try cases r) <;> rfl

theorem storedAddresses_bit (n : Index8) (x : Loc8) (s : State) : storedAddresses (Instr.bit n x) s = [] := by
  cases n <;> rcases x with ⟨r⟩ | _ <;> (try cases r) <;> rfl

theorem storedAddresses_res (n : Index8) (x : Loc8) (s : State) : storedAddresses (Instr.res n x) s = locStored x s := by
  cases n <;> rcases x with ⟨r⟩ | _ <;> (try cases r) <;> rfl

theorem storedAddresses_set (n : Index8) (x : Loc8) (s : State) : storedAddresses (Instr.set n x) s = locStored x s := by
  cases n <;> rcases x with ⟨r⟩ | _ <;> (try cases r) <;> rfl

theorem storedAddresses_ldRegReg (r r' : Reg8) (s : State) : storedAddresses (Instr.ldRegReg r r') s = [] := by
  cases r <;> cases r' <;> rfl

theorem storedAddresses_ldRegD8 (r : Reg8) (v : Byte) (s : State) : storedAddresses (Instr.ldRegD8 r v) s = [] := by
  cases r <;> rfl

theorem storedAddresses_ldRegMhl (r : Reg8) (s : State) : storedAddresses (Instr.ldRegMhl r) s = [] := by cases r <;> rfl

theorem storedAddresses_ldMhlReg (r : Reg8) (s : State) : storedAddresses (Instr.ldMhlReg r) s = [s.hl] := by
  cases r <;> rfl

theorem storedAddresses_ldPairD16 (p : Rp) (v : Word) (s : State) : storedAddresses (Instr.ldPairD16 p v) s = [] := by
  cases p <;> rfl

theorem storedAddresses_jrCond (cc : Cond) (e : Byte) (s : State) : storedAddresses (Instr.jrCond cc e) s = [] := by
  cases cc <;> rfl

theorem storedAddresses_jpCond (cc : Cond) (a : Word) (s : State) : storedAddresses (Instr.jpCond cc a) s = [] := by
  cases cc <;> rfl

theorem storedAddresses_callCond (cc : Cond) (a : Word) (s : State) :
    storedAddresses (Instr.callCond cc a) s = if s.cond cc then stackSlots s else [] := by
  cases cc <;> rfl

theorem storedAddresses_retCond (cc : Cond) (s : State) : storedAddresses (Instr.retCond cc) s = [] := by cases cc <;> rfl

theorem storedAddresses_rst (y : Index8) (s : State) : storedAddresses (Instr.rst y) s = stackSlots s := by cases y <;> rfl

theorem storedAddresses_push (p : Rp2) (s : State) : storedAddresses (Instr.push p) s = stackSlots s := by cases p <;> rfl

theorem storedAddresses_pop (p : Rp2) (s : State) : storedAddresses (Instr.pop p) s = [] := by cases p <;> rfl

theorem storedAddresses_undefined {i : Instr} {op : Byte} (h : (i, op) ∈ undefinedOpcodes) (s : State) :
    storedAddresses i s = [] := by
  have each : undefinedOpcodes.Forall fun p => storedAddresses p.1 s = [] := by
    repeat' first | rfl | apply And.intro
  exact List.forall_iff_forall_mem.1 each _ h

/-- 0xCB with a sub-opcode stores where its CB instruction does: BIT nowhere, the other three groups to their location
(45_system.md R265). -/
theorem storedAddresses_prefix_cb (cb : Byte) (s : State) : storedAddresses (.prefix_cb cb) s =
    if fieldX cb = 1 then [] else locStored (Loc8.ofCode (fieldZ cb)) s := by
  change (if fieldZ cb = 6 ∧ fieldX cb ≠ 1 then [s.hl] else []) = _
  by_cases hx : fieldX cb = 1
  · simp [hx]
  · have hz : fieldZ cb < 8 := Nat.mod_lt _ (by omega)
    simp only [hx, ne_eq, not_false_eq_true, and_true, if_false]
    generalize fieldZ cb = z at hz
    interval_cases z <;> rfl

/-! The bytes stored, as bus writes. -/

/-- The bus writes of a list, in its order. -/
def writeBytes (s : State) (ws : List (Word × Byte)) : State := ws.foldl (fun t w => memWrite t w.1 w.2) s

/-- `t` is `s` after one byte stored at each of the addresses `as` in turn, the CPU and the T-cycle count apart. -/
def Stores (s : State) (as : List Word) (t : State) : Prop :=
  ∃ ws : List (Word × Byte), ws.map Prod.fst = as ∧ sameOutsideCpu (writeBytes s ws) t

theorem sameOutsideCpu.refl (s : State) : sameOutsideCpu s s := by and_intros <;> rfl

theorem sameOutsideCpu.of_cpu (s : State) (c : Cpu) (n : Nat) : sameOutsideCpu s { s with cpu := c, cycles := n } := by
  and_intros <;> rfl

theorem sameOutsideCpu.trans {s t u : State} (h : sameOutsideCpu s t) (h' : sameOutsideCpu t u) : sameOutsideCpu s u := by
  simp_all only [sameOutsideCpu, and_self]

section
variable {s t : State} {as : List Word}

/-- A change of the CPU alone, after what has been stored. -/
theorem Stores.cpu (h : Stores s as t) {u : State} (hu : sameOutsideCpu t u) : Stores s as u := by
  obtain ⟨ws, hws, ht⟩ := h
  exact ⟨ws, hws, ht.trans hu⟩

theorem Stores.of_writes (ws : List (Word × Byte)) : Stores s (ws.map Prod.fst) (writeBytes s ws) := ⟨ws, rfl, .refl _⟩

theorem Stores.nothing : Stores s [] s := .of_writes []

theorem Stores.byte (a : Word) (v : Byte) : Stores s [a] (memWrite s a v) := .of_writes [(a, v)]

theorem Stores.reg (h : Stores s as t) (r : Reg8) (v : Byte) : Stores s as (t.setReg r v) :=
  h.cpu (setReg_sameOutsideCpu t r v)

theorem Stores.flags (h : Stores s as t) (v : Byte) : Stores s as (t.setF v) := h.cpu (.of_cpu _ _ _)

theorem Stores.pair (h : Stores s as t) (p : Rp) (v : Word) : Stores s as (t.setPair p v) :=
  h.cpu (by simp [sameOutsideCpu])

theorem Stores.pair2 (h : Stores s as t) (p : Rp2) (v : Word) : Stores s as (t.setPair2 p v) :=
  h.cpu (by simp [sameOutsideCpu])

theorem Stores.pc (h : Stores s as t) (v : Word) : Stores s as (t.setPc v) := h.cpu (.of_cpu _ _ _)

theorem Stores.sp (h : Stores s as t) (v : Word) : Stores s as (t.setSp v) := h.cpu (.of_cpu _ _ _)

theorem Stores.set8 (x : Loc8) (v : Byte) : Stores s (locStored x s) (set8 x v s) := by
  cases x with
  | reg r => exact Stores.nothing.reg r v
  | mhl => exact .byte _ v

/-- A push stores the high byte, then the low one (44_control_stack.md R240). -/
theorem Stores.push (v : Word) : Stores s (stackSlots s) (push16 v s) := by
  rw [push16_eq]
  exact (Stores.of_writes [(s.cpu.sp - 1#16, hiByte v), (s.cpu.sp - 2#16, loByte v)]).cpu (.of_cpu _ _ _)

/-- The result of a meaning that ends with its T-cycle count. -/
theorem Stores.completes (h : Stores s as t) (n : Nat) : ∃ u, complete n t = .next u ∧ Stores s as u :=
  ⟨t.spend n, rfl, h.cpu (.of_cpu _ _ _)⟩

end

/-! What each instruction does. -/

theorem exec_prefix_cb_stores (cb : Byte) (s : State) :
    ∃ t, exec (.prefix_cb cb) s = .next t ∧ Stores s (storedAddresses (.prefix_cb cb) s) t := by
  rw [storedAddresses_prefix_cb]
  change ∃ t, exec_prefix_cb cb s = .next t ∧ _
  unfold exec_prefix_cb
  dsimp only
  split
  · next hx => rw [hx]; exact ((Stores.set8 _ _).flags _).completes _
  · next hx => rw [hx]; exact (Stores.nothing.flags _).completes _
  · next hx => rw [hx]; exact (Stores.set8 _ _).completes _
  · next hbit _ => rw [if_neg hbit]; exact (Stores.set8 _ _).completes _

/-- Every instruction completes, and stores to its addresses in their order. -/
theorem exec_stores (i : Instr) (s : State) : ∃ t, exec i s = .next t ∧ Stores s (storedAddresses i s) t := by
  have start : Stores s [] s := .nothing
  induction i using instr_families
  case alu op x =>
    rw [exec_alu, storedAddresses_alu, aluA]
    split
    · exact (start.flags _).completes _
    · exact ((start.reg .a _).flags _).completes _
  case incLoc x =>
    rw [exec_incLoc, storedAddresses_incLoc]
    exact ((Stores.set8 x _).flags _).completes _
  case decLoc x =>
    rw [exec_decLoc, storedAddresses_decLoc]
    exact ((Stores.set8 x _).flags _).completes _
  case addHl p =>
    rw [exec_addHl, storedAddresses_addHl]
    exact ((start.pair .hl _).flags _).completes _
  case incPair p =>
    rw [exec_incPair, storedAddresses_incPair]
    exact (start.pair p _).completes _
  case decPair p =>
    rw [exec_decPair, storedAddresses_decPair]
    exact (start.pair p _).completes _
  case rot op x =>
    rw [exec_rot, storedAddresses_rot]
    exact ((Stores.set8 x _).flags _).completes _
  case bit n x =>
    rw [exec_bit, storedAddresses_bit]
    exact (start.flags _).completes _
  case res n x =>
    rw [exec_res, storedAddresses_res]
    exact (Stores.set8 x _).completes _
  case set n x =>
    rw [exec_set, storedAddresses_set]
    exact (Stores.set8 x _).completes _
  case ldRegReg r r' =>
    rw [exec_ldRegReg, storedAddresses_ldRegReg]
    exact (start.reg r _).completes _
  case ldRegD8 r v =>
    rw [exec_ldRegD8, storedAddresses_ldRegD8]
    exact (start.reg r _).completes _
  case ldRegMhl r =>
    rw [exec_ldRegMhl, storedAddresses_ldRegMhl]
    exact (start.reg r _).completes _
  case ldMhlReg r =>
    rw [exec_ldMhlReg, storedAddresses_ldMhlReg]
    exact (Stores.byte _ _).completes _
  case ldPairD16 p v =>
    rw [exec_ldPairD16, storedAddresses_ldPairD16]
    exact (start.pair p _).completes _
  case jrCond cc e =>
    rw [exec_jrCond, storedAddresses_jrCond, jumpRelIf]
    split
    · exact (start.pc _).completes _
    · exact start.completes _
  case jpCond cc a =>
    rw [exec_jpCond, storedAddresses_jpCond, jumpIf]
    split
    · exact (start.pc _).completes _
    · exact start.completes _
  case callCond cc a =>
    rw [exec_callCond, storedAddresses_callCond, callIf]
    split
    · exact ((Stores.push _).pc _).completes _
    · exact start.completes _
  case retCond cc =>
    rw [exec_retCond, storedAddresses_retCond, returnIf]
    split
    · exact ((start.sp _).pc _).completes _
    · exact start.completes _
  case rst y =>
    rw [exec_rst, storedAddresses_rst]
    exact ((Stores.push _).pc _).completes _
  case push p =>
    rw [exec_push, storedAddresses_push]
    exact (Stores.push _).completes _
  case pop p =>
    rw [exec_pop, storedAddresses_pop]
    exact ((start.sp _).pair2 p _).completes _
  case undefinedOp hm =>
    rw [exec_undefined hm, storedAddresses_undefined hm]
    exact (start.cpu (.of_cpu _ _ _)).completes _
  case prefix_cb' cb => exact exec_prefix_cb_stores cb s
  case nop' | stop' => exact start.completes _
  case di' | ei' | reti' => exact (start.cpu (.of_cpu _ _ _)).completes _
  case halt' =>
    refine (start.cpu ?_).completes 4
    split <;> exact .of_cpu _ _ _
  case scf' | ccf' => exact (start.flags _).completes _
  case rlca' | rrca' | rla' | rra' | daa' | cpl' => exact ((start.reg .a _).flags _).completes _
  case add_sp_s8' => exact ((start.sp _).flags _).completes _
  case ld_hl_sp_s8' => exact ((start.pair .hl _).flags _).completes _
  case ld_a_mbc' | ld_a_mde' | ldh_a_ma8' | ld_a_mc' | ld_a_ma16' => exact (start.reg .a _).completes _
  case ld_a_mhli' | ld_a_mhld' => exact ((start.reg .a _).pair .hl _).completes _
  case ld_sp_hl' => exact (start.sp _).completes _
  case jp_a16' | jp_hl' | jr_s8' => exact (start.pc _).completes _
  case ret' => exact ((start.sp _).pc _).completes _
  case ld_mbc_a' | ld_mde_a' | ld_mhl_d8' | ldh_ma8_a' | ld_mc_a' | ld_ma16_a' => exact (Stores.byte _ _).completes _
  case ld_mhli_a' | ld_mhld_a' => exact ((Stores.byte _ _).pair .hl _).completes _
  case ld_ma16_sp' => exact (Stores.of_writes [(_, _), (_, _)]).completes _
  case call_a16' => exact ((Stores.push _).pc _).completes _

/-! Completion. -/

theorem executeOne_completes (s : State) : ∃ t, executeOne s = .next t := by
  obtain ⟨u, hu, -⟩ := exec_stores (fetchInstr s) (instrFetched s)
  exact ⟨promoteEi s.cpu.imePending u, by rw [executeOne, hu]⟩

theorem cpuStep_completes (s : State) : ∃ t, cpuStep s = .next t := by
  unfold cpuStep
  split
  · exact ⟨_, rfl⟩
  · dsimp only
    split
    · exact ⟨_, rfl⟩
    · exact executeOne_completes _

theorem step_completes (s : State) : ∃ t, step s = .next t := by
  obtain ⟨u, hu⟩ := cpuStep_completes (delivered s)
  exact ⟨tickDevices u, by rw [step, machineStep, hu]⟩

/-- Settles O32: every instruction completes, hence every CPU step, whichever its outcome, and every machine step. -/
theorem everyInstructionAndStepCompletes : Obligations.EveryInstructionAndStepCompletes :=
  ⟨fun i s => (exec_stores i s).imp fun _ h => h.1, step_completes⟩

/-! The memory frame. -/

/-- A read looks at nothing of the CPU and not at the T-cycle count. -/
theorem memRead_of_sameOutsideCpu {s t : State} (h : sameOutsideCpu s t) (b : Word) : memRead t b = memRead s b := by
  obtain ⟨hintr, htimer, hjoypad, hppu, hcart, hwram, hhram, hon, hboot, -⟩ := h
  simp only [memRead, busRead, ioRead, hintr, htimer, hjoypad, hppu, hcart, hwram, hhram, hon, hboot]

/-- Writes to plain cells change what no other cell reads: each write leaves the cells of the next ones plain. -/
theorem memRead_writeBytes_otherCell {s : State} {b : Word} (ws : List (Word × Byte))
    (hplain : ∀ a ∈ ws.map Prod.fst, plainCell s a = true) (hne : ∀ a ∈ ws.map Prod.fst, cellOf b ≠ cellOf a) :
    memRead (writeBytes s ws) b = memRead s b := by
  induction ws generalizing s with
  | nil => rfl
  | cons w ws ih =>
    obtain ⟨hw, hws⟩ := List.forall_mem_cons.1 hplain
    obtain ⟨hnew, hnews⟩ := List.forall_mem_cons.1 hne
    calc memRead (writeBytes (memWrite s w.1 w.2) ws) b
      _ = memRead (memWrite s w.1 w.2) b := ih (fun a ha => by rw [plainCell_memWrite w.2 hw, hws a ha]) hnews
      _ = memRead s b := memRead_memWrite_otherCell w.2 hw hnew

/-- Settles O36: the next state is, outside the CPU, the state after the stores, which keep every other cell; with no
address to store to, it is the state itself. -/
theorem instructionMemoryFrame : Obligations.InstructionMemoryFrame := by
  intro i s t h
  obtain ⟨u, hu, ws, hws, hsame⟩ := exec_stores i s
  obtain rfl : u = t := Host.Outcome.next.inj (hu.symm.trans h)
  rw [← hws]
  refine ⟨fun hplain b hne => ?_, fun hnone => ?_⟩
  · rw [memRead_of_sameOutsideCpu hsame, memRead_writeBytes_otherCell ws hplain hne]
  · obtain rfl := List.map_eq_nil_iff.1 hnone
    exact hsame

end Sys2Proof.Machine
end

section
/-! SUPPORT. The rows of the opcode maps (30_encoding.md R119 to R123): the opcode that a family's operand codes give, from
which the decoder reads the family's instruction and which the encoder writes for it. -/

namespace Sys2Proof.Machine

/-- The encoder writes as many bytes as the format says (R110). -/
theorem encode_length (i : Instr) : (encode i).length = i.length := by cases i <;> rfl

/-! A row by the bytes that its instruction has, and the round trip of each kind of row. -/

/-- An opcode with no operand byte. -/
structure OneByteRow (op : Byte) (i : Instr) : Prop where
  encode_eq : encode i = [op]
  decodeAt_eq : ∀ d1 d2, decodeAt op d1 d2 = i

/-- An opcode and an immediate byte, the operand of `f`. -/
structure TwoByteRow (op : Byte) (f : Byte → Instr) : Prop where
  encode_eq : ∀ v, encode (f v) = [op, v]
  decodeAt_eq : ∀ d1 d2, decodeAt op d1 d2 = f d1

/-- An opcode and an immediate word, the operand of `f`, its low byte first (R117). -/
structure ThreeByteRow (op : Byte) (f : Word → Instr) : Prop where
  encode_eq : ∀ v, encode (f v) = [op, loByte v, hiByte v]
  decodeAt_eq : ∀ d1 d2, decodeAt op d1 d2 = f (joinBytes d2 d1)

/-- 0xCB and a sub-opcode (R123). -/
structure CbRow (sub : Byte) (i : Instr) : Prop where
  encode_eq : encode i = [0xCB#8, sub]
  cbInstr_eq : cbInstr sub = i

/-- The decoder takes from the bytes as many as the instruction at their head has, whatever follows them. -/
theorem decode_encode_of_decodeAt {i : Instr} {op : Byte} {ops : List Byte} (henc : encode i = op :: ops) (rest : List Byte)
    (hdec : decodeAt op ((ops ++ rest).getD 0 0x00#8) ((ops ++ rest).getD 1 0x00#8) = i) :
    decode (encode i ++ rest) = .ok (i, rest) := by
  have hlen : i.length = ops.length + 1 := by rw [← encode_length, henc, List.length_cons]
  rw [henc, List.cons_append, decode, hdec, hlen, if_neg (by simp), Nat.add_sub_cancel, List.drop_left]

theorem OneByteRow.decode_encode {op : Byte} {i : Instr} (row : OneByteRow op i) (rest : List Byte) :
    decode (encode i ++ rest) = .ok (i, rest) :=
  decode_encode_of_decodeAt row.encode_eq rest (row.decodeAt_eq _ _)

theorem TwoByteRow.decode_encode {op : Byte} {f : Byte → Instr} (row : TwoByteRow op f) (v : Byte) (rest : List Byte) :
    decode (encode (f v) ++ rest) = .ok (f v, rest) :=
  decode_encode_of_decodeAt (row.encode_eq v) rest (row.decodeAt_eq _ _)

theorem ThreeByteRow.decode_encode {op : Byte} {f : Word → Instr} (row : ThreeByteRow op f) (v : Word)
    (rest : List Byte) : decode (encode (f v) ++ rest) = .ok (f v, rest) :=
  decode_encode_of_decodeAt (row.encode_eq v) rest ((row.decodeAt_eq _ _).trans (congrArg f (joinBytes_hi_lo v)))

theorem CbRow.decode_encode {sub : Byte} {i : Instr} (row : CbRow sub i) (rest : List Byte) :
    decode (encode i ++ rest) = .ok (i, rest) :=
  decode_encode_of_decodeAt row.encode_eq rest row.cbInstr_eq

/-! The families' rows. The decoder's operand tables (R113 to R117), the codes of Safety.lean and the encoder's bytes are
written out independently, so each row is compared operand by operand; the bytes after an opcode stay free. First the base
map, x = 0 (R119). -/

theorem incLoc_row (x : Loc8) : OneByteRow (.ofNat 8 (0x04 + 8 * locCode x)) (.incLoc x) := by
  rcases x with ⟨r⟩ | _ <;> (try cases r) <;> exact ⟨rfl, fun _ _ => rfl⟩

theorem decLoc_row (x : Loc8) : OneByteRow (.ofNat 8 (0x05 + 8 * locCode x)) (.decLoc x) := by
  rcases x with ⟨r⟩ | _ <;> (try cases r) <;> exact ⟨rfl, fun _ _ => rfl⟩

theorem addHl_row (p : Rp) : OneByteRow (.ofNat 8 (0x09 + 16 * rpCode p)) (.addHl p) := by
  cases p <;> exact ⟨rfl, fun _ _ => rfl⟩

theorem incPair_row (p : Rp) : OneByteRow (.ofNat 8 (0x03 + 16 * rpCode p)) (.incPair p) := by
  cases p <;> exact ⟨rfl, fun _ _ => rfl⟩

theorem decPair_row (p : Rp) : OneByteRow (.ofNat 8 (0x0B + 16 * rpCode p)) (.decPair p) := by
  cases p <;> exact ⟨rfl, fun _ _ => rfl⟩

theorem ldPairD16_row (p : Rp) : ThreeByteRow (.ofNat 8 (0x01 + 16 * rpCode p)) (.ldPairD16 p) := by
  cases p <;> exact ⟨fun _ => rfl, fun _ _ => rfl⟩

theorem ldRegD8_row (r : Reg8) : TwoByteRow (.ofNat 8 (0x06 + 8 * regCode r)) (.ldRegD8 r) := by
  cases r <;> exact ⟨fun _ => rfl, fun _ _ => rfl⟩

theorem jrCond_row (cc : Cond) : TwoByteRow (.ofNat 8 (0x20 + 8 * condCode cc)) (.jrCond cc) := by
  cases cc <;> exact ⟨fun _ => rfl, fun _ _ => rfl⟩

/-! The base map, x = 1 and x = 2 (R120, R121). -/

theorem ldRegReg_row (r r' : Reg8) : OneByteRow (.ofNat 8 (0x40 + 8 * regCode r + regCode r')) (.ldRegReg r r') := by
  cases r <;> cases r' <;> exact ⟨rfl, fun _ _ => rfl⟩

theorem ldRegMhl_row (r : Reg8) : OneByteRow (.ofNat 8 (0x46 + 8 * regCode r)) (.ldRegMhl r) := by
  cases r <;> exact ⟨rfl, fun _ _ => rfl⟩

theorem ldMhlReg_row (r : Reg8) : OneByteRow (.ofNat 8 (0x70 + regCode r)) (.ldMhlReg r) := by
  cases r <;> exact ⟨rfl, fun _ _ => rfl⟩

theorem aluLoc_row (op : AluOp) (x : Loc8) :
    OneByteRow (.ofNat 8 (0x80 + 8 * aluCode op + locCode x)) (.alu op (.loc x)) := by
  cases op <;> rcases x with ⟨r⟩ | _ <;> (try cases r) <;> exact ⟨rfl, fun _ _ => rfl⟩

/-! The base map, x = 3 (R122). -/

theorem aluImm_row (op : AluOp) : TwoByteRow (.ofNat 8 (0xC6 + 8 * aluCode op)) fun v => .alu op (.imm v) := by
  cases op <;> exact ⟨fun _ => rfl, fun _ _ => rfl⟩

theorem jpCond_row (cc : Cond) : ThreeByteRow (.ofNat 8 (0xC2 + 8 * condCode cc)) (.jpCond cc) := by
  cases cc <;> exact ⟨fun _ => rfl, fun _ _ => rfl⟩

theorem callCond_row (cc : Cond) : ThreeByteRow (.ofNat 8 (0xC4 + 8 * condCode cc)) (.callCond cc) := by
  cases cc <;> exact ⟨fun _ => rfl, fun _ _ => rfl⟩

theorem retCond_row (cc : Cond) : OneByteRow (.ofNat 8 (0xC0 + 8 * condCode cc)) (.retCond cc) := by
  cases cc <;> exact ⟨rfl, fun _ _ => rfl⟩

theorem rst_row (y : Index8) : OneByteRow (.ofNat 8 (0xC7 + 8 * y.toNat)) (.rst y) := by
  cases y <;> exact ⟨rfl, fun _ _ => rfl⟩

theorem push_row (p : Rp2) : OneByteRow (.ofNat 8 (0xC5 + 16 * rp2Code p)) (.push p) := by
  cases p <;> exact ⟨rfl, fun _ _ => rfl⟩

theorem pop_row (p : Rp2) : OneByteRow (.ofNat 8 (0xC1 + 16 * rp2Code p)) (.pop p) := by
  cases p <;> exact ⟨rfl, fun _ _ => rfl⟩

theorem undefined_row {i : Instr} {op : Byte} (h : (i, op) ∈ undefinedOpcodes) : OneByteRow op i := by
  have each : undefinedOpcodes.Forall fun p => OneByteRow p.2 p.1 := by
    and_intros <;> exact ⟨rfl, fun _ _ => rfl⟩
  exact List.forall_iff_forall_mem.1 each _ h

/-! The CB map (R123). -/

theorem rot_row (op : RotOp) (x : Loc8) : CbRow (.ofNat 8 (8 * rotCode op + locCode x)) (.rot op x) := by
  cases op <;> rcases x with ⟨r⟩ | _ <;> (try cases r) <;> exact ⟨rfl, rfl⟩

theorem bit_row (n : Index8) (x : Loc8) : CbRow (.ofNat 8 (0x40 + 8 * n.toNat + locCode x)) (.bit n x) := by
  cases n <;> rcases x with ⟨r⟩ | _ <;> (try cases r) <;> exact ⟨rfl, rfl⟩

theorem res_row (n : Index8) (x : Loc8) : CbRow (.ofNat 8 (0x80 + 8 * n.toNat + locCode x)) (.res n x) := by
  cases n <;> rcases x with ⟨r⟩ | _ <;> (try cases r) <;> exact ⟨rfl, rfl⟩

theorem set_row (n : Index8) (x : Loc8) : CbRow (.ofNat 8 (0xC0 + 8 * n.toNat + locCode x)) (.set n x) := by
  cases n <;> rcases x with ⟨r⟩ | _ <;> (try cases r) <;> exact ⟨rfl, rfl⟩

/-! The round trip. -/

/-- Settles O1: each family by its row, and the instructions that stand alone by theirs; only 0xCB with a sub-opcode, whose
bytes are those of a CB instruction, is not well-formed. -/
theorem decodeEncodeRoundTrip : Obligations.DecodeEncodeRoundTrip := by
  intro i rest hwf
  induction i using instr_families
  case alu op x =>
    cases x with
    | loc x => exact (aluLoc_row op x).decode_encode rest
    | imm v => exact (aluImm_row op).decode_encode v rest
  case incLoc x => exact (incLoc_row x).decode_encode rest
  case decLoc x => exact (decLoc_row x).decode_encode rest
  case addHl p => exact (addHl_row p).decode_encode rest
  case incPair p => exact (incPair_row p).decode_encode rest
  case decPair p => exact (decPair_row p).decode_encode rest
  case rot op x => exact (rot_row op x).decode_encode rest
  case bit n x => exact (bit_row n x).decode_encode rest
  case res n x => exact (res_row n x).decode_encode rest
  case set n x => exact (set_row n x).decode_encode rest
  case ldRegReg r r' => exact (ldRegReg_row r r').decode_encode rest
  case ldRegD8 r v => exact (ldRegD8_row r).decode_encode v rest
  case ldRegMhl r => exact (ldRegMhl_row r).decode_encode rest
  case ldMhlReg r => exact (ldMhlReg_row r).decode_encode rest
  case ldPairD16 p v => exact (ldPairD16_row p).decode_encode v rest
  case jrCond cc e => exact (jrCond_row cc).decode_encode e rest
  case jpCond cc a => exact (jpCond_row cc).decode_encode a rest
  case callCond cc a => exact (callCond_row cc).decode_encode a rest
  case retCond cc => exact (retCond_row cc).decode_encode rest
  case rst y => exact (rst_row y).decode_encode rest
  case push p => exact (push_row p).decode_encode rest
  case pop p => exact (pop_row p).decode_encode rest
  case undefinedOp hm => exact (undefined_row hm).decode_encode rest
  case prefix_cb' => cases hwf
  case ld_ma16_sp' a | jp_a16' a | call_a16' a | ld_ma16_a' a | ld_a_ma16' a =>
    exact ThreeByteRow.decode_encode ⟨fun _ => rfl, fun _ _ => rfl⟩ a rest
  case stop' v | jr_s8' v | ld_mhl_d8' v | ldh_ma8_a' v | add_sp_s8' v | ldh_a_ma8' v | ld_hl_sp_s8' v =>
    exact TwoByteRow.decode_encode ⟨fun _ => rfl, fun _ _ => rfl⟩ v rest
  case nop' | halt' | di' | ei' | daa' | cpl' | scf' | ccf' | rlca' | rrca' | rla' | rra' | jp_hl' | ret' | reti' |
      ld_mbc_a' | ld_a_mbc' | ld_mde_a' | ld_a_mde' | ld_mhli_a' | ld_a_mhli' | ld_mhld_a' | ld_a_mhld' | ld_mc_a' |
      ld_a_mc' | ld_sp_hl' =>
    exact OneByteRow.decode_encode ⟨rfl, fun _ _ => rfl⟩ rest

end Sys2Proof.Machine
end

section
/-! SUPPORT. The 8-bit ALU (40_alu8.md) in the terms of Safety.lean: what each pure function computes, as numbers, and the
next state of an instruction that writes A and F, F alone, or a location and F. -/

namespace Sys2Proof.Machine

/-! How a meaning that writes flags ends. -/

/-- A result for A and a flag byte, in the form of `State.withAF`. -/
theorem complete_setResultA (s : State) (r : Byte) (z n h c : Bool) (k : Nat) :
    complete k (s.setResultA ⟨r, flagsOf z n h c⟩) = .next (s.withAF r (flagsOf z n h c) k) := by
  rw [State.setResultA, State.setF, maskFlags_flagsOf]
  rfl

/-- A flag byte alone, in the form of `State.withF`. -/
theorem complete_setF (s : State) (z n h c : Bool) (k : Nat) :
    complete k (s.setF (flagsOf z n h c)) = .next (s.withF (flagsOf z n h c) k) := by
  rw [State.setF, maskFlags_flagsOf]
  rfl

/-! The pure functions as numbers. -/

theorem decide_ofNat8_eq_zero (n : Nat) : decide (BitVec.ofNat 8 n = 0x00#8) = decide (n % 256 = 0) := by
  rw [decide_eq_decide, ← BitVec.toNat_inj, BitVec.toNat_ofNat, BitVec.toNat_ofNat]

theorem add8_eq (a b : Byte) (c : Bool) : add8 a b c =
    let sum := a.toNat + b.toNat + c.toNat
    ⟨.ofNat 8 sum, flagsOf (decide (sum % 256 = 0)) false (decide (a.toNat % 16 + b.toNat % 16 + c.toNat > 15))
      (decide (sum > 255))⟩ := by
  rw [add8, flagByte_eq_flagsOf, decide_ofNat8_eq_zero]
  rfl

/-- A difference of bytes, as a number that is not negative. -/
theorem sub_sub_eq_ofNat (a b : Byte) (c : Bool) :
    a - b - BitVec.ofNat 8 c.toNat = .ofNat 8 (a.toNat + 256 - b.toNat - c.toNat) := by
  cases c <;> bv_omega

theorem sub8_eq (a b : Byte) (c : Bool) : sub8 a b c =
    let diff := a.toNat + 256 - b.toNat - c.toNat
    ⟨.ofNat 8 diff, flagsOf (decide (diff % 256 = 0)) true (decide (a.toNat % 16 < b.toNat % 16 + c.toNat))
      (decide (a.toNat < b.toNat + c.toNat))⟩ := by
  rw [sub8, flagByte_eq_flagsOf, sub_sub_eq_ofNat, decide_ofNat8_eq_zero]
  rfl

theorem and8_eq (a b : Byte) : and8 a b =
    ⟨.ofNat 8 (a.toNat &&& b.toNat), flagsOf (decide (a.toNat &&& b.toNat = 0)) false true false⟩ := by
  have hzero : a &&& b = 0x00#8 ↔ a.toNat &&& b.toNat = 0 := by rw [← BitVec.toNat_inj, BitVec.toNat_and]; rfl
  simp only [and8, flagByte_eq_flagsOf, hzero, BitVec.ofNat_and, BitVec.ofNat_toNat, BitVec.setWidth_eq]

theorem xor8_eq (a b : Byte) : xor8 a b =
    ⟨.ofNat 8 (a.toNat ^^^ b.toNat), flagsOf (decide (a.toNat = b.toNat)) false false false⟩ := by
  have hzero : a ^^^ b = 0x00#8 ↔ a.toNat = b.toNat := by rw [BitVec.toNat_inj]; exact BitVec.xor_eq_zero_iff
  simp only [xor8, flagByte_eq_flagsOf, hzero, BitVec.ofNat_xor, BitVec.ofNat_toNat, BitVec.setWidth_eq]

theorem or8_eq (a b : Byte) : or8 a b =
    ⟨.ofNat 8 (a.toNat ||| b.toNat), flagsOf (decide (a.toNat = 0 ∧ b.toNat = 0)) false false false⟩ := by
  have hzero : a ||| b = 0x00#8 ↔ a.toNat = 0 ∧ b.toNat = 0 := by
    rw [← BitVec.toNat_inj, BitVec.toNat_or]; exact Nat.or_eq_zero_iff
  simp only [or8, flagByte_eq_flagsOf, hzero, BitVec.ofNat_or, BitVec.ofNat_toNat, BitVec.setWidth_eq]

theorem inc8_eq (v : Byte) (s : State) : inc8 v s.cpu.f =
    ⟨.ofNat 8 (v.toNat + 1),
      flagsOf (decide (v.toNat = 255)) false (decide ((v.toNat + 1) % 16 = 0)) (carryIn s)⟩ := by
  have hv := v.isLt
  have hres : v + 1#8 = .ofNat 8 (v.toNat + 1) := by bv_omega
  have hzero : (v.toNat + 1) % 256 = 0 ↔ v.toNat = 255 := by omega
  have hlow : (v.toNat + 1) % 256 % 16 = (v.toNat + 1) % 16 := by omega
  simp only [inc8, lowNibble, flagByte_eq_flagsOf, flagC_eq_carryIn, hres, decide_ofNat8_eq_zero, BitVec.toNat_ofNat, hzero,
    Nat.reducePow, hlow]

theorem dec8_eq (v : Byte) (s : State) : dec8 v s.cpu.f =
    ⟨.ofNat 8 (v.toNat + 255), flagsOf (decide (v.toNat = 1)) true (decide (v.toNat % 16 = 0)) (carryIn s)⟩ := by
  have hv := v.isLt
  have hres : v - 1#8 = .ofNat 8 (v.toNat + 255) := by bv_omega
  have hzero : (v.toNat + 255) % 256 = 0 ↔ v.toNat = 1 := by omega
  have hlow : (v.toNat + 255) % 256 % 16 = 15 ↔ v.toNat % 16 = 0 := by omega
  simp only [dec8, lowNibble, flagByte_eq_flagsOf, flagC_eq_carryIn, hres, decide_ofNat8_eq_zero, BitVec.toNat_ofNat, hzero,
    Nat.reducePow, hlow]

/-! The two-operand instructions (R145 to R152). -/

theorem encode_alu (op : AluOp) (x : Operand8) : encode (Instr.alu op x) = aluBytes op x := by
  cases x with
  | loc x => exact (aluLoc_row op x).encode_eq
  | imm v => exact (aluImm_row op).encode_eq v

theorem encode_aluMhl (op : AluOp) : encode (Instr.alu op (.loc .mhl)) = [BitVec.ofNat 8 (0x86 + 8 * aluCode op)] := by
  rw [encode_alu, aluBytes, locCode, show 0x80 + 8 * aluCode op + 6 = 0x86 + 8 * aluCode op by omega]

section
variable {op : AluOp} {x : Operand8} {s : State} {r : Byte} {z n h c : Bool}

/-- Every operation but CP writes its result to A (R145 to R151). -/
theorem exec_alu_withAF (hop : op ≠ .cp) (hr : alu8 op s.cpu.a (operand8 x s) s.cpu.f = ⟨r, flagsOf z n h c⟩) :
    exec (Instr.alu op x) s = .next (s.withAF r (flagsOf z n h c) (operand8Cycles x)) := by
  rw [exec_alu, aluA, if_neg hop, hr, complete_setResultA]

/-- CP drops its result (R152). -/
theorem exec_cp_withF (hr : alu8 .cp s.cpu.a (operand8 x s) s.cpu.f = ⟨r, flagsOf z n h c⟩) :
    exec (Instr.alu .cp x) s = .next (s.withF (flagsOf z n h c) (operand8Cycles x)) := by
  rw [exec_alu, aluA, if_pos rfl, hr, complete_setF]

end

/-- Settles O4: the operand and its cost by the forms' definitions, the bytes by the rows of the opcode map. -/
theorem aluOperandForms : Obligations.AluOperandForms := fun _ op r d8 =>
  ⟨rfl, rfl, rfl, encode_alu op (.loc (.reg r)), encode_aluMhl op, encode_alu op (.imm d8), rfl, rfl, rfl⟩

/-- Settles O5: the sums and differences with the carry going in, which is 0 for ADD and SUB. -/
theorem addAdcSubSbcResult : Obligations.AddAdcSubSbcResult := by
  intro s x
  refine ⟨?add, ?adc, ?sub, ?sbc, encode_alu .add x, encode_alu .adc x, encode_alu .sub x, encode_alu .sbc x⟩
  case add => exact exec_alu_withAF nofun (add8_eq _ _ false)
  case adc => exact exec_alu_withAF nofun (by rw [alu8, flagC_eq_carryIn]; exact add8_eq _ _ _)
  case sub => exact exec_alu_withAF nofun (sub8_eq _ _ false)
  case sbc => exact exec_alu_withAF nofun (by rw [alu8, flagC_eq_carryIn]; exact sub8_eq _ _ _)

/-- Settles O6, operation by operation. -/
theorem andXorOrResult : Obligations.AndXorOrResult := fun _ x =>
  ⟨exec_alu_withAF nofun (and8_eq _ _), exec_alu_withAF nofun (xor8_eq _ _), exec_alu_withAF nofun (or8_eq _ _),
    encode_alu .and x, encode_alu .xor x, encode_alu .or x⟩

/-- Settles O7: the flags are those of a subtraction, whose result is 0 exactly when the operands are equal. -/
theorem cpLeavesAccumulator : Obligations.CpLeavesAccumulator := by
  intro s x
  have hzero : (s.cpu.a.toNat + 256 - (operand8 x s).toNat) % 256 = 0 ↔ s.cpu.a.toNat = (operand8 x s).toNat := by
    have ha := s.cpu.a.isLt
    have hv := (operand8 x s).isLt
    omega
  refine ⟨?_, encode_alu .cp x⟩
  simp only [← hzero]
  exact exec_cp_withF (sub8_eq _ _ false)

/-! INC and DEC (R143, R144). -/

/-- Settles O8: the new value and its flags as numbers; the location's write, of a register or at HL, stays as it is. -/
theorem incDecResult : Obligations.IncDecResult := by
  intro s x
  refine ⟨?inc, ?dec, (incLoc_row x).encode_eq, (decLoc_row x).encode_eq⟩
  case inc => rw [exec_incLoc, incAt, inc8_eq, complete_setF, locCycles_eq]
  case dec => rw [exec_decLoc, decAt, dec8_eq, complete_setF, locCycles_eq]

/-! DAA, CPL, SCF, CCF (R153 to R156). -/

/-- The adjustment of DAA, as a number (R153). -/
def daaAdjust (high low : Bool) : Nat := (if high then 0x60 else 0) + (if low then 0x06 else 0)

theorem daaAdjust_eq_ofNat (high low : Bool) :
    (if high then 0x60#8 else 0x00#8) + (if low then 0x06#8 else 0x00#8) = BitVec.ofNat 8 (daaAdjust high low) := by
  cases high <;> cases low <;> rfl

theorem daaAdjust_le (high low : Bool) : daaAdjust high low ≤ 0x66 := by
  cases high <;> cases low <;> decide

/-- A byte adjusted up or down, as a number modulo 256. -/
theorem adjusted_eq_ofNat (a : Byte) (n : Bool) {k : Nat} (hk : k ≤ 0x66) :
    (if n then a - BitVec.ofNat 8 k else a + BitVec.ofNat 8 k)
      = BitVec.ofNat 8 ((if n then a.toNat + 256 - k else a.toNat + k) % 256) := by
  cases n
  · simp only [Bool.false_eq_true, if_false]
    bv_omega
  · simp only [if_true]
    bv_omega

theorem daa8_eq (s : State) : daa8 s.cpu.a s.cpu.f =
    let high := carryIn s || (!subIn s && decide (s.cpu.a.toNat > 0x99))
    let low := halfIn s || (!subIn s && decide (s.cpu.a.toNat % 16 > 9))
    let r := (if subIn s then s.cpu.a.toNat + 256 - daaAdjust high low else s.cpu.a.toNat + daaAdjust high low) % 256
    ⟨.ofNat 8 r, flagsOf (decide (r = 0)) (subIn s) false high⟩ := by
  have digit : ∀ n c d : Bool, (if n then c else c || d) = (c || (!n && d)) := by decide
  simp only [daa8, flagByte_eq_flagsOf, flagC_eq_carryIn, flagH_eq_halfIn, flagN_eq_subIn, digit,
    daaAdjust_eq_ofNat, adjusted_eq_ofNat _ _ (daaAdjust_le _ _), decide_ofNat8_eq_zero, Nat.mod_mod]
  rfl

/-- Settles O9: `daa8` as numbers, then the end of a meaning that writes A and F. -/
theorem daaResult : Obligations.DaaResult := by
  intro s
  refine ⟨?_, rfl⟩
  change exec_daa s = _
  rw [exec_daa, daa8_eq, complete_setResultA]
  rfl

theorem cpl8_eq (s : State) : cpl8 s.cpu.a s.cpu.f =
    ⟨.ofNat 8 (255 - s.cpu.a.toNat), flagsOf (zeroIn s) true true (carryIn s)⟩ := by
  have hres : s.cpu.a ^^^ 0xFF#8 = .ofNat 8 (255 - s.cpu.a.toNat) := by
    rw [show 0xFF#8 = BitVec.allOnes 8 from rfl, BitVec.xor_allOnes]
    bv_omega
  rw [cpl8, hres, flagByte_eq_flagsOf, flagZ_eq_zeroIn, flagC_eq_carryIn]

/-- Settles O11: each from its flag computation. -/
theorem cplScfCcfResult : Obligations.CplScfCcfResult := by
  intro s
  refine ⟨?cpl, ?scf, ?ccf, rfl, rfl, rfl⟩
  case cpl =>
    change exec_cpl s = _
    rw [exec_cpl, cpl8_eq, complete_setResultA]
  case scf =>
    change exec_scf s = _
    rw [exec_scf, scfFlags, flagByte_eq_flagsOf, flagZ_eq_zeroIn, complete_setF]
  case ccf =>
    change exec_ccf s = _
    rw [exec_ccf, ccfFlags, flagByte_eq_flagsOf, flagZ_eq_zeroIn, flagC_eq_carryIn, complete_setF]

end Sys2Proof.Machine
end

section
/-! SUPPORT. F over all instructions (40_alu8.md R157): those outside the flag table keep F, and every write of F masks its
low nibble (10_state.md R21). -/

namespace Sys2Proof.Machine

/-! Which families the table lists. -/

@[simp] theorem writesFlags_alu (op : AluOp) (x : Operand8) : writesFlags (Instr.alu op x) = true := by
  cases op <;> rcases x with (⟨r⟩ | _) | _ <;> (try cases r) <;> rfl

@[simp] theorem writesFlags_incLoc (x : Loc8) : writesFlags (Instr.incLoc x) = true := by
  rcases x with ⟨r⟩ | _ <;> (try cases r) <;> rfl

@[simp] theorem writesFlags_decLoc (x : Loc8) : writesFlags (Instr.decLoc x) = true := by
  rcases x with ⟨r⟩ | _ <;> (try cases r) <;> rfl

@[simp] theorem writesFlags_addHl (p : Rp) : writesFlags (Instr.addHl p) = true := by cases p <;> rfl

@[simp] theorem writesFlags_rot (op : RotOp) (x : Loc8) : writesFlags (Instr.rot op x) = true := by
  cases op <;> rcases x with ⟨r⟩ | _ <;> (try cases r) <;> rfl

@[simp] theorem writesFlags_bit (n : Index8) (x : Loc8) : writesFlags (Instr.bit n x) = true := by
  cases n <;> rcases x with ⟨r⟩ | _ <;> (try cases r) <;> rfl

/-- Of the sub-opcodes, those of the rotates and BIT, x = 0 and x = 1, write flags (30_encoding.md R123). -/
theorem writesFlags_prefix_cb (cb : Byte) : writesFlags (.prefix_cb cb) = decide (fieldX cb < 2) := by
  change decide (cb.toNat < 0x80) = decide (cb.toNat / 64 < 2)
  rw [decide_eq_decide]
  omega

/-! What keeps F. -/

section
variable {s t u : State} {n : Nat}

/-- A meaning keeps F when the state that it completes with has it. -/
theorem flags_of_complete (h : complete n u = .next t) (hu : u.cpu.f = s.cpu.f) : t.cpu.f = s.cpu.f := by
  obtain rfl := Host.Outcome.next.inj h
  exact hu

theorem set8_cpu_f (x : Loc8) (v : Byte) (s : State) : (set8 x v s).cpu.f = s.cpu.f := by
  cases x with
  | reg r => exact setReg_cpu_f s r v
  | mhl => rw [set8, memWrite_cpu]

theorem push16_cpu_f (v : Word) (s : State) : (push16 v s).cpu.f = s.cpu.f := by rw [push16_cpu]

/-- RES and SET, the CB instructions outside the flag table, write their location alone. -/
theorem exec_prefix_cb_keepsFlags {cb : Byte} (h : exec (.prefix_cb cb) s = .next t) (hx : ¬fieldX cb < 2) :
    t.cpu.f = s.cpu.f := by
  change exec_prefix_cb cb s = .next t at h
  unfold exec_prefix_cb at h
  dsimp only at h
  split at h
  · next h0 => omega
  · next h1 => omega
  · exact flags_of_complete h (set8_cpu_f _ _ s)
  · exact flags_of_complete h (set8_cpu_f _ _ s)

/-- Family by family: the listed ones are excluded, the others write no register but those named, and not F. -/
theorem exec_keepsFlags {i : Instr} (h : exec i s = .next t) (hi : writesFlags i = false) : t.cpu.f = s.cpu.f := by
  induction i using instr_families
  case alu | incLoc | decLoc | addHl | rot | bit => simp at hi
  case rlca' | rrca' | rla' | rra' | daa' | cpl' | scf' | ccf' | add_sp_s8' | ld_hl_sp_s8' => cases hi
  case prefix_cb' cb =>
    rw [writesFlags_prefix_cb] at hi
    exact exec_prefix_cb_keepsFlags h (of_decide_eq_false hi)
  case incPair p => exact flags_of_complete (exec_incPair p s ▸ h) (setPair_cpu_f s p _)
  case decPair p => exact flags_of_complete (exec_decPair p s ▸ h) (setPair_cpu_f s p _)
  case res n x => exact flags_of_complete (exec_res n x s ▸ h) (set8_cpu_f x _ s)
  case set n x => exact flags_of_complete (exec_set n x s ▸ h) (set8_cpu_f x _ s)
  case ldRegReg r r' => exact flags_of_complete (exec_ldRegReg r r' s ▸ h) (setReg_cpu_f s r _)
  case ldRegD8 r v => exact flags_of_complete (exec_ldRegD8 r v s ▸ h) (setReg_cpu_f s r _)
  case ldRegMhl r => exact flags_of_complete (exec_ldRegMhl r s ▸ h) (setReg_cpu_f s r _)
  case ldMhlReg r => exact flags_of_complete (exec_ldMhlReg r s ▸ h) (by rw [memWrite_cpu])
  case ldPairD16 p v => exact flags_of_complete (exec_ldPairD16 p v s ▸ h) (setPair_cpu_f s p _)
  case jrCond cc e =>
    rw [exec_jrCond, jumpRelIf] at h
    split at h <;> exact flags_of_complete h rfl
  case jpCond cc a =>
    rw [exec_jpCond, jumpIf] at h
    split at h <;> exact flags_of_complete h rfl
  case callCond cc a =>
    rw [exec_callCond, callIf] at h
    split at h
    · exact flags_of_complete h (push16_cpu_f _ s)
    · exact flags_of_complete h rfl
  case retCond cc =>
    rw [exec_retCond, returnIf] at h
    split at h <;> exact flags_of_complete h rfl
  case rst y =>
    rw [exec_rst] at h
    exact flags_of_complete h (push16_cpu_f _ s)
  case push p => exact flags_of_complete (exec_push p s ▸ h) (push16_cpu_f _ s)
  case pop p =>
    cases p
    case af => cases hi
    all_goals exact flags_of_complete h rfl
  case undefinedOp hm =>
    rw [exec_undefined hm] at h
    exact flags_of_complete h rfl
  case halt' =>
    refine flags_of_complete h ?_
    split <;> rfl
  case call_a16' => exact flags_of_complete h (push16_cpu_f _ s)
  case ld_mbc_a' | ld_mde_a' | ld_mhl_d8' | ldh_ma8_a' | ld_mc_a' | ld_ma16_a' | ld_ma16_sp' | ld_mhli_a' | ld_mhld_a' =>
    exact flags_of_complete h (by simp)
  case nop' | stop' | di' | ei' | reti' | ret' | jp_a16' | jp_hl' | jr_s8' | ld_sp_hl' | ld_a_mbc' | ld_a_mde' |
      ldh_a_ma8' | ld_a_mc' | ld_a_ma16' | ld_a_mhli' | ld_a_mhld' =>
    exact flags_of_complete h rfl

/-! The low nibble. -/

/-- The one write of F masks it; no other effect touches it. -/
theorem Effects.flagsLow (h : Effects s t) (hs : s.cpu.f.toNat % 16 = 0) : t.cpu.f.toNat % 16 = 0 := by
  induction h with
  | none => exact hs
  | flags v _ _ => rw [setF_cpu_f, maskFlags_toNat, Nat.mul_mod_left]
  | reg r _ _ ih => rw [setReg_cpu_f, ih]
  | pair p _ _ ih => rw [setPair_cpu_f, ih]
  | write _ _ _ ih => rw [memWrite_cpu, ih]
  | pc _ _ ih => exact ih
  | sp _ _ ih => exact ih
  | spend _ _ ih => exact ih

theorem exec_flagsLow {i : Instr} (h : exec i s = .next t) (hs : s.cpu.f.toNat % 16 = 0) : t.cpu.f.toNat % 16 = 0 := by
  obtain he | ⟨-, _, _, rfl⟩ | ⟨-, rfl⟩ | ⟨-, rfl⟩ | ⟨-, rfl⟩ | ⟨op, -, rfl⟩ := exec_cases h
  · exact he.flagsLow hs
  all_goals exact hs

end

/-- Settles O35: the frame of F family by family, its low nibble by the effects that an instruction is made of. -/
theorem flagsOnlyWhereListed : Obligations.FlagsOnlyWhereListed :=
  fun _ _ _ h => ⟨exec_keepsFlags h, exec_flagsLow h⟩

end Sys2Proof.Machine
end

section
/-! SUPPORT. The 16-bit arithmetic (41_alu16.md) in the terms of Safety.lean: what each pure function computes, as numbers,
and the next states of the instructions. -/

namespace Sys2Proof.Machine

/-! The pure functions as numbers. -/

theorem addHl16_eq (v : Word) (s : State) : addHl16 s.hl v s.cpu.f =
    ⟨.ofNat 16 (s.hl.toNat + v.toNat),
      flagsOf (zeroIn s) false (decide (s.hl.toNat % 4096 + v.toNat % 4096 > 4095))
        (decide (s.hl.toNat + v.toNat > 65535))⟩ := by
  rw [addHl16, flagByte_eq_flagsOf, flagZ_eq_zeroIn]

theorem addSp16_eq (sp : Word) (e : Byte) : addSp16 sp e =
    ⟨.ofInt 16 (sp.toNat + signedByte e),
      flagsOf false false (decide (sp.toNat % 16 + e.toNat % 16 > 15)) (decide (sp.toNat % 256 + e.toNat > 255))⟩ := by
  rw [addSp16, add_sext16, flagByte_eq_flagsOf]

/-! The instructions (R170 to R174). -/

/-- INC and DEC of a pair: the new value as a number, which the pair holds modulo 2^16 (R171, R172). -/
theorem stepPair_eq (p : Rp) (d : Word) (s : State) : stepPair p d s =
    .next { s.setPair p (.ofNat 16 ((s.pair p).toNat + d.toNat)) with cycles := 8 } := by
  rw [stepPair, BitVec.add_def]
  rfl

/-- Settles O13: the sum and its flags for ADD HL,rr; a step by 1 or by 65535, which touches no flag, for INC and DEC. -/
theorem pairArithmeticResult : Obligations.PairArithmeticResult := by
  intro s p
  refine ⟨?addHl, ?inc, ?dec, (addHl_row p).encode_eq, (incPair_row p).encode_eq, (decPair_row p).encode_eq⟩
  case addHl => rw [exec_addHl, addHlPair, addHl16_eq, complete_setF]
  case inc => exact (exec_incPair p s).trans (stepPair_eq p 1#16 s)
  case dec => exact (exec_decPair p s).trans (stepPair_eq p 0xFFFF#16 s)

/-- Settles O14: both instructions write the one sum `SP + s8` with its flags, to SP or to HL. -/
theorem spOffsetResult : Obligations.SpOffsetResult := by
  intro s e
  refine ⟨?addSp, ?ldHl, rfl, rfl⟩
  case addSp =>
    change exec_add_sp_s8 e s = _
    rw [exec_add_sp_s8, addSp16_eq, complete_setF]
    rfl
  case ldHl =>
    change exec_ld_hl_sp_s8 e s = _
    rw [exec_ld_hl_sp_s8, addSp16_eq, complete_setF]

end Sys2Proof.Machine
end

section
/-! SUPPORT. The rotates, shifts, BIT, RES and SET (42_rotate_shift_bit.md) in the terms of Safety.lean: what each pure
function computes, as numbers, and the next states of the instructions. -/

namespace Sys2Proof.Machine

/-! The rotates and shifts as numbers (R180 to R192). -/

/-- A byte whose low `k` bits are clear and one below `2 ^ k` are joined by adding them. -/
theorem or_eq_ofNat_add {p q : Byte} (k : Nat) (hp : 2 ^ k ∣ p.toNat) (hq : q.toNat < 2 ^ k) :
    p ||| q = .ofNat 8 (p.toNat + q.toNat) := by
  obtain ⟨m, hm⟩ := hp
  rw [hm, Nat.two_pow_add_eq_or_of_lt hq, ← hm, ← BitVec.toNat_or, BitVec.ofNat_toNat, BitVec.setWidth_eq]

/-- One place to the left, with `b` entering bit 0. -/
theorem shiftLeft_one_or_bit (v : Byte) (b : Bool) :
    v <<< 1 ||| .ofNat 8 b.toNat = .ofNat 8 (2 * v.toNat % 256 + b.toNat) := by
  rw [or_eq_ofNat_add 1 (by bv_omega) (by cases b <;> decide)]
  cases b <;> bv_omega

/-- One place to the right, with `b` entering bit 7. -/
theorem ushiftRight_one_or_bit (v : Byte) (b : Bool) :
    v >>> 1 ||| BitVec.ofNat 8 b.toNat <<< 7 = .ofNat 8 (v.toNat / 2 + 128 * b.toNat) := by
  rw [BitVec.or_comm, or_eq_ofNat_add 7 (by bv_omega) (by bv_omega)]
  cases b <;> bv_omega

theorem nibbles_exchanged (v : Byte) : v <<< 4 ||| v >>> 4 = .ofNat 8 (v.toNat % 16 * 16 + v.toNat / 16) := by
  rw [or_eq_ofNat_add 4 (by bv_omega) (by bv_omega)]
  bv_omega

/-- SRA keeps bit 7: it is the bit that enters. -/
theorem and_0x80_eq_bit (v : Byte) : v &&& 0x80#8 = BitVec.ofNat 8 (bitOf v 7).toNat <<< 7 := by
  change v &&& BitVec.twoPow 8 7 = _
  rw [BitVec.and_twoPow, bitOf]
  cases v.getLsbD 7 <;> rfl

theorem bitOf_toNat (v : Byte) (n : Nat) : (bitOf v n).toNat = v.toNat / 2 ^ n % 2 := Nat.toNat_testBit _ _

theorem bitOf_seven_toNat (v : Byte) : (bitOf v 7).toNat = v.toNat / 128 := by
  rw [bitOf_toNat]
  bv_omega

theorem bitOf_zero_toNat (v : Byte) : (bitOf v 0).toNat = v.toNat % 2 := by
  rw [bitOf_toNat, Nat.pow_zero, Nat.div_one]

theorem rotate_fst (op : RotOp) (v : Byte) (cy : Bool) :
    (rotate op v cy).1 = .ofNat 8 (rotated op v.toNat cy.toNat) := by
  cases op with
  | rlc => rw [rotate, shiftLeft_one_or_bit, bitOf_seven_toNat, rotated]
  | rrc => rw [rotate, ushiftRight_one_or_bit, bitOf_zero_toNat, rotated]
  | rl => exact shiftLeft_one_or_bit v cy
  | rr => exact ushiftRight_one_or_bit v cy
  | sla => simpa [rotate, rotated] using shiftLeft_one_or_bit v false
  | sra => rw [rotate, and_0x80_eq_bit, ushiftRight_one_or_bit, bitOf_seven_toNat, rotated, Nat.mul_comm]
  | swap => exact nibbles_exchanged v
  | srl => simpa [rotate, rotated] using ushiftRight_one_or_bit v false

theorem rotate_snd (op : RotOp) (v : Byte) (cy : Bool) : (rotate op v cy).2 = shiftedOut op v.toNat := by
  have decide_toNat : ∀ b : Bool, decide (b.toNat = 1) = b := by decide
  cases op with
  | rlc | rl | sla => rw [rotate, shiftedOut, ← bitOf_seven_toNat, decide_toNat]
  | rrc | rr | sra | srl => rw [rotate, shiftedOut, ← bitOf_zero_toNat, decide_toNat]
  | swap => rfl

/-- A moved byte is a byte, so its Z needs no reduction. -/
theorem rotated_lt (op : RotOp) (v : Byte) (c : Bool) : rotated op v.toNat c.toNat < 256 := by
  have hv := v.isLt
  have hc := c.toNat_lt
  cases op <;> simp only [rotated] <;> omega

theorem rot8_eq (op : RotOp) (v : Byte) (s : State) : rot8 op v s.cpu.f =
    let w := rotated op v.toNat (carryIn s).toNat
    ⟨.ofNat 8 w, flagsOf (decide (w = 0)) false false (shiftedOut op v.toNat)⟩ := by
  rw [rot8, flagByte_eq_flagsOf, flagC_eq_carryIn, rotate_fst, rotate_snd, decide_ofNat8_eq_zero,
    Nat.mod_eq_of_lt (rotated_lt op v _)]

theorem rotA8_eq (op : RotOp) (v : Byte) (s : State) : rotA8 op v s.cpu.f =
    ⟨.ofNat 8 (rotated op v.toNat (carryIn s).toNat), flagsOf false false false (shiftedOut op v.toNat)⟩ := by
  rw [rotA8, flagByte_eq_flagsOf, flagC_eq_carryIn, rotate_fst, rotate_snd]

/-! BIT, RES and SET as numbers (R193 to R195). -/

theorem bitFlags_eq (n : Index8) (v : Byte) (s : State) : bitFlags n v s.cpu.f =
    flagsOf (decide (v.toNat / 2 ^ n.toNat % 2 = 0)) false true (carryIn s) := by
  simp only [bitFlags, flagByte_eq_flagsOf, flagC_eq_carryIn, bitOf_eq, ← decide_not, Nat.mod_two_not_eq_one]

/-- The mask of RES and SET. -/
theorem bitMask_toNat (n : Index8) : (1#8 <<< n.toNat).toNat = 2 ^ n.toNat := by cases n <;> rfl

/-- The bit that the mask selects, with its weight. -/
theorem and_bitMask_toNat (n : Index8) (v : Byte) :
    (v &&& 1#8 <<< n.toNat).toNat = v.toNat / 2 ^ n.toNat % 2 * 2 ^ n.toNat := by
  rw [BitVec.toNat_and, bitMask_toNat, Nat.and_two_pow, Nat.toNat_testBit]

theorem and_not_and_self (v m : Byte) : v &&& ~~~m &&& m = 0x00#8 := by
  rw [BitVec.and_assoc, BitVec.not_and_self]
  exact BitVec.and_zero

theorem and_not_or_self (v m : Byte) : v &&& ~~~m ||| m = v ||| m := by
  ext i hi
  simp [Bool.or_and_distrib_right]

/-- RES leaves the other bits, which with the selected one make the byte. -/
theorem resBit_toNat_add (n : Index8) (v : Byte) :
    (resBit n v).toNat + v.toNat / 2 ^ n.toNat % 2 * 2 ^ n.toNat = v.toNat := by
  have hdisjoint : resBit n v &&& (v &&& 1#8 <<< n.toNat) = 0x00#8 := by
    rw [resBit, BitVec.and_comm v (1#8 <<< _), ← BitVec.and_assoc, and_not_and_self, BitVec.zero_and]
  have hjoin : resBit n v + (v &&& 1#8 <<< n.toNat) = v := by
    rw [BitVec.add_eq_or_of_and_eq_zero _ _ hdisjoint, resBit, ← BitVec.and_or_distrib_left, BitVec.not_or_self,
      BitVec.and_allOnes]
  rw [← and_bitMask_toNat, ← BitVec.toNat_add_of_and_eq_zero hdisjoint, hjoin]

/-- SET is RES and then the bit with its weight. -/
theorem setBit_toNat (n : Index8) (v : Byte) : (setBit n v).toNat = (resBit n v).toNat + 2 ^ n.toNat := by
  have hdisjoint : resBit n v &&& 1#8 <<< n.toNat = 0x00#8 := and_not_and_self v _
  have hjoin : setBit n v = resBit n v + 1#8 <<< n.toNat := by
    rw [BitVec.add_eq_or_of_and_eq_zero _ _ hdisjoint, resBit, and_not_or_self, setBit]
  rw [hjoin, BitVec.toNat_add_of_and_eq_zero hdisjoint, bitMask_toNat]

theorem resBit_eq (n : Index8) (v : Byte) :
    resBit n v = .ofNat 8 (v.toNat - v.toNat / 2 ^ n.toNat % 2 * 2 ^ n.toNat) := by
  rw [← Nat.eq_sub_of_add_eq (resBit_toNat_add n v), BitVec.ofNat_toNat, BitVec.setWidth_eq]

theorem setBit_eq (n : Index8) (v : Byte) :
    setBit n v = .ofNat 8 (v.toNat + (1 - v.toNat / 2 ^ n.toNat % 2) * 2 ^ n.toNat) := by
  have hset : v.toNat + (1 - v.toNat / 2 ^ n.toNat % 2) * 2 ^ n.toNat = (setBit n v).toNat := by
    have hres := resBit_toNat_add n v
    rw [setBit_toNat]
    rcases Nat.mod_two_eq_zero_or_one (v.toNat / 2 ^ n.toNat) with hb | hb <;> rw [hb] at hres ⊢ <;> omega
  rw [hset, BitVec.ofNat_toNat, BitVec.setWidth_eq]

/-! The instructions. -/

theorem rotateA_eq (op : RotOp) (s : State) : rotateA op s =
    .next (s.withAF (.ofNat 8 (rotated op s.cpu.a.toNat (carryIn s).toNat))
      (flagsOf false false false (shiftedOut op s.cpu.a.toNat)) 4) := by
  rw [rotateA, rotA8_eq, complete_setF]
  rfl

/-- Settles O15: the four instructions are `rotateA` with their operations. -/
theorem accumulatorRotateResult : Obligations.AccumulatorRotateResult := fun s =>
  ⟨rotateA_eq .rlc s, rotateA_eq .rrc s, rotateA_eq .rl s, rotateA_eq .rr s, rfl, rfl, rfl, rfl⟩

/-- Settles O16: the moved value and its flags as numbers; the location's write, of a register or at HL, stays as it is. -/
theorem rotateShiftResult : Obligations.RotateShiftResult := by
  intro s op x
  refine ⟨?_, (rot_row op x).encode_eq⟩
  rw [exec_rot, rotAt, rot8_eq, complete_setF, locCycles_eq]

/-- Settles O17: the flags of BIT, and the byte that RES and SET write, as numbers. -/
theorem bitResSetResult : Obligations.BitResSetResult := by
  intro s n x
  refine ⟨?bit, ?res, ?set, (bit_row n x).encode_eq, (res_row n x).encode_eq, (set_row n x).encode_eq⟩
  case bit => rw [exec_bit, bitAt, bitFlags_eq, complete_setF, locCycles_eq]
  case res => rw [exec_res, resAt, resBit_eq, complete_eq, locCycles_eq]
  case set => rw [exec_set, setAt, setBit_eq, complete_eq, locCycles_eq]

end Sys2Proof.Machine
end

section
/-! SUPPORT. The loads and stores (43_load.md) in the terms of Safety.lean: addresses, immediates and the step of HL as
numbers. -/

namespace Sys2Proof.Machine

/-! Encoding. -/

/-- The operand word as two numbers, its low byte first (30_encoding.md R117). -/
theorem ThreeByteRow.encode_eq_ofNat {op : Byte} {f : Word → Instr} (row : ThreeByteRow op f) (v : Word) :
    encode (f v) = [op, .ofNat 8 (v.toNat % 256), .ofNat 8 (v.toNat / 256)] := by
  rw [row.encode_eq, loByte_eq_ofNat, hiByte_eq_ofNat]

theorem ld_ma16_a_row : ThreeByteRow 0xEA#8 .ld_ma16_a := ⟨fun _ => rfl, fun _ _ => rfl⟩

theorem ld_a_ma16_row : ThreeByteRow 0xFA#8 .ld_a_ma16 := ⟨fun _ => rfl, fun _ _ => rfl⟩

theorem ld_ma16_sp_row : ThreeByteRow 0x08#8 .ld_ma16_sp := ⟨fun _ => rfl, fun _ _ => rfl⟩

/-! The shared meanings. -/

theorem storeAt_highPage (n : Nat) (b v : Byte) (s : State) : storeAt n (highPage b) v s =
    .next { memWrite s (.ofNat 16 (0xFF00 + b.toNat)) v with cycles := n } := by
  rw [storeAt, highPage_eq_ofNat, complete_eq]

theorem loadAFrom_highPage (n : Nat) (b : Byte) (s : State) : loadAFrom n (highPage b) s =
    .next { s.setReg .a (memRead s (.ofNat 16 (0xFF00 + b.toNat))) with cycles := n } := by
  rw [loadAFrom, highPage_eq_ofNat, complete_eq]

/-- The read at the old HL, then HL as a number modulo 2^16 (R209, R210). -/
theorem loadAStep_eq (d : Word) (s : State) : loadAStep d s =
    .next { (s.setReg .a (memRead s s.hl)).setPair .hl (.ofNat 16 (s.hl.toNat + d.toNat)) with cycles := 8 } := by
  rw [loadAStep, BitVec.add_def, complete_eq]

/-- The write at the old HL, then HL as a number modulo 2^16 (R211, R212). -/
theorem storeAStep_eq (d : Word) (s : State) : storeAStep d s =
    .next { (memWrite s s.hl s.cpu.a).setPair .hl (.ofNat 16 (s.hl.toNat + d.toNat)) with cycles := 8 } := by
  rw [storeAStep, BitVec.add_def, complete_eq]

/-- SP's bytes as numbers and the second address modulo 2^16 (R220). -/
theorem exec_ld_ma16_sp_eq (a : Word) (s : State) : exec_ld_ma16_sp a s =
    .next { memWrite (memWrite s a (.ofNat 8 (s.cpu.sp.toNat % 256))) (.ofNat 16 (a.toNat + 1))
              (.ofNat 8 (s.cpu.sp.toNat / 256)) with cycles := 20 } := by
  rw [exec_ld_ma16_sp, loByte_eq_ofNat, hiByte_eq_ofNat, BitVec.add_def, complete_eq]
  rfl

/-! The instructions. -/

/-- Settles O18: the three families are `loadReg` of their source, read before the write, and their opcodes stand in the
rows of the maps. -/
theorem loadRegisterResult : Obligations.LoadRegisterResult := by
  intro s r r' d8
  refine ⟨?reg, ?imm, ?mhl, (ldRegReg_row r r').encode_eq, (ldRegD8_row r).encode_eq d8, (ldRegMhl_row r).encode_eq⟩
  case reg => rw [exec_ldRegReg, loadReg, complete_eq]
  case imm => rw [exec_ldRegD8, loadReg, complete_eq]
  case mhl => rw [exec_ldRegMhl, loadReg, complete_eq]

/-- Settles O19: each form is `storeAt` of its address, which is in the page 0xFF00 for LDH and LD (C),A. -/
theorem storeByteResult : Obligations.StoreByteResult := by
  intro s r d8 a8 a16
  refine ⟨?mhl, rfl, rfl, rfl, storeAt_highPage 12 a8 s.cpu.a s, storeAt_highPage 8 s.cpu.c s.cpu.a s, rfl,
    (ldMhlReg_row r).encode_eq, rfl, rfl, rfl, rfl, rfl, ld_ma16_a_row.encode_eq_ofNat a16, highPage_eq_ofNat a8⟩
  case mhl => rw [exec_ldMhlReg, storeAt, complete_eq]

/-- Settles O20: each form is `loadAFrom` of its address, which is in the page 0xFF00 for LDH and LD A,(C). -/
theorem loadAccumulatorResult : Obligations.LoadAccumulatorResult := fun s a8 a16 =>
  ⟨rfl, rfl, loadAFrom_highPage 12 a8 s, loadAFrom_highPage 8 s.cpu.c s, rfl, rfl, rfl, rfl, rfl,
    ld_a_ma16_row.encode_eq_ofNat a16⟩

/-- Settles O21: the access at the old HL and then a step of HL by 1 or by 65535. -/
theorem hlStepResult : Obligations.HlStepResult := fun s =>
  ⟨loadAStep_eq 1#16 s, loadAStep_eq 0xFFFF#16 s, storeAStep_eq 1#16 s, storeAStep_eq 0xFFFF#16 s, rfl, rfl, rfl, rfl⟩

/-- Settles O22: the pair's write by `loadPair`, the two bus writes of SP's bytes as numbers, and SP's write of HL. -/
theorem load16Result : Obligations.Load16Result := by
  intro s p d16 a16
  refine ⟨?pair, exec_ld_ma16_sp_eq a16 s, rfl, (ldPairD16_row p).encode_eq_ofNat d16,
    ld_ma16_sp_row.encode_eq_ofNat a16, rfl⟩
  case pair => rw [exec_ldPairD16, loadPair, complete_eq]

end Sys2Proof.Machine
end

section
/-! SUPPORT. The jumps, calls, returns, PUSH and POP (44_control_stack.md) in the terms of Safety.lean: the targets as
numbers, the conditions from the flags as numbers, and the next state of each as one expression. -/

namespace Sys2Proof.Machine

/-! Targets and stack transfers. -/

theorem setPc_spend (s : State) (pc : Word) (n : Nat) : (s.setPc pc).spend n = s.jumped pc n := rfl

/-- A relative target, as an integer sum (R246). -/
theorem setPc_relTarget_spend (s : State) (e : Byte) (n : Nat) :
    (s.setPc (relTarget s e)).spend n = s.jumped (.ofInt 16 (s.cpu.pc.toNat + signedByte e)) n := by
  rw [relTarget, add_sext16, setPc_spend]

/-- A push alone is a call that keeps PC (R240, R254). -/
theorem push16_spend (s : State) (v : Word) (n : Nat) : (push16 v s).spend n = s.called v s.cpu.pc n := by
  have hpc : (push16 v s).setPc s.cpu.pc = push16 v s := by rw [push16_eq]; rfl
  rw [← push16_setPc_spend, hpc]

/-- RETI is a return that also sets IME (R252). -/
theorem returnFromInterrupt_spend (s : State) (n : Nat) : (returnFromInterrupt s).spend n =
    s.withCpu { s.cpu with sp := s.cpu.sp + 2#16, pc := stackTop s, ime := true } n := by
  rw [returnFromInterrupt, popValue_eq_stackTop]
  rfl

theorem popPair_eq (p : Rp2) (s : State) : popPair p s =
    .next { (s.setPair .sp (s.cpu.sp + 2#16)).setPair2 p (stackTop s) with cycles := 12 } := by
  rw [popPair, popValue_eq_stackTop, complete_eq]
  rfl

/-! Conditional transfers. -/

/-- How a conditional transfer ends (R242, R244, R247, R249, R251): in `u` when taken, and past the instruction, with
nothing changed but the cost, when not. -/
theorem transferIf_eq (cc : Cond) (s : State) {t u : State} {taken : Nat} (notTaken : Nat) (h : t.spend taken = u) :
    (if s.cond cc then complete taken t else complete notTaken s)
      = .next (if condHolds cc s then u else s.jumped s.cpu.pc notTaken) := by
  rw [cond_eq_condHolds, ← h]
  cases condHolds cc s <;> rfl

theorem jumpIf_eq (cc : Cond) (a : Word) (s : State) : jumpIf cc a s =
    .next (if condHolds cc s then s.jumped a 16 else s.jumped s.cpu.pc 12) :=
  transferIf_eq cc s 12 (setPc_spend s a 16)

theorem jumpRelIf_eq (cc : Cond) (e : Byte) (s : State) : jumpRelIf cc e s =
    .next (if condHolds cc s then s.jumped (.ofInt 16 (s.cpu.pc.toNat + signedByte e)) 12 else s.jumped s.cpu.pc 8) :=
  transferIf_eq cc s 8 (setPc_relTarget_spend s e 12)

theorem callIf_eq (cc : Cond) (a : Word) (s : State) : callIf cc a s =
    .next (if condHolds cc s then s.called s.cpu.pc a 24 else s.jumped s.cpu.pc 12) :=
  transferIf_eq cc s 12 (push16_setPc_spend s s.cpu.pc a 24)

theorem returnIf_eq (cc : Cond) (s : State) : returnIf cc s =
    .next (if condHolds cc s then s.returned 20 else s.jumped s.cpu.pc 8) :=
  transferIf_eq cc s 8 (popped_setPc_spend s 20)

/-! Encoding of the three-byte forms that stand alone (R117). -/

theorem jp_a16_row : ThreeByteRow 0xC3#8 .jp_a16 := ⟨fun _ => rfl, fun _ _ => rfl⟩

theorem call_a16_row : ThreeByteRow 0xCD#8 .call_a16 := ⟨fun _ => rfl, fun _ _ => rfl⟩

/-! The instructions. -/

/-- Settles O23: each form writes PC only, the conditional ones as `transferIf_eq` says; a relative target is an integer
sum. -/
theorem jumpResult : Obligations.JumpResult := by
  intro s cc a e
  refine ⟨rfl, ?jpCond, rfl, ?jr, ?jrCond, jp_a16_row.encode_eq_ofNat a, (jpCond_row cc).encode_eq_ofNat a, rfl, rfl,
    (jrCond_row cc).encode_eq e, cond_eq_condHolds cc s⟩
  case jpCond => rw [exec_jpCond, jumpIf_eq]
  case jr => exact congrArg _ (setPc_relTarget_spend s e 12)
  case jrCond => rw [exec_jrCond, jumpRelIf_eq]

/-- Settles O24: a call is a push of PC and a jump, which `push16_setPc_spend` says as one state. -/
theorem callRstResult : Obligations.CallRstResult := by
  intro s cc a y
  refine ⟨?call, ?callCond, ?rst, call_a16_row.encode_eq_ofNat a, (callCond_row cc).encode_eq_ofNat a,
    (rst_row y).encode_eq⟩
  case call => exact congrArg _ (push16_setPc_spend s s.cpu.pc a 24)
  case callCond => rw [exec_callCond, callIf_eq]
  case rst =>
    rw [exec_rst]
    exact congrArg _ (push16_setPc_spend s s.cpu.pc _ 16)

/-- Settles O25: a return takes PC from the top of the stack; RETI sets IME as well and leaves the EI latch. -/
theorem returnResult : Obligations.ReturnResult := by
  intro s cc
  refine ⟨?ret, ?retCond, ?reti, rfl, (retCond_row cc).encode_eq, rfl⟩
  case ret => exact congrArg _ (popped_setPc_spend s 16)
  case retCond => rw [exec_retCond, returnIf_eq]
  case reti => exact congrArg _ (returnFromInterrupt_spend s 16)

/-- Settles O26: PUSH is a call's push without its jump; POP writes the pair from the top of the stack. -/
theorem pushPopResult : Obligations.PushPopResult := by
  intro s p
  refine ⟨?push, ?pop, (push_row p).encode_eq, (pop_row p).encode_eq⟩
  case push =>
    rw [exec_push]
    exact congrArg _ (push16_spend s (s.pair2 p) 16)
  case pop => rw [exec_pop, popPair_eq]

end Sys2Proof.Machine
end

section
/-! SUPPORT. The system instructions (45_system.md) in the terms of Safety.lean: HALT's condition as numbers, and 0xCB
with its sub-opcode as the CB instruction that it selects. -/

namespace Sys2Proof.Machine

/-! HALT (R261). -/

/-- The enabled and pending requests, as a number: bits 5 to 7 of IE take no part (49_machine_step.md R281). -/
theorem pend_toNat (s : State) : s.pend.toNat = s.intr.ie.toNat % 32 &&& s.intr.flags.toNat := by
  rw [State.pend, BitVec.toNat_and, BitVec.toNat_setWidth]

theorem pend_ne_zero_iff (s : State) : s.pend ≠ 0#5 ↔ s.intr.ie.toNat % 32 &&& s.intr.flags.toNat ≠ 0 := by
  rw [← pend_toNat, ne_eq, ← BitVec.toNat_inj, BitVec.toNat_zero]

/-- Settles O29: the model's Boolean condition for the HALT bug is the conjunction of the statement, and in either case
HALT writes the flags named and no others. -/
theorem haltResult : Obligations.HaltResult := by
  intro s
  refine ⟨?_, rfl⟩
  change exec_halt s = _
  simp only [exec_halt, complete_eq, Bool.and_eq_true, Bool.not_eq_true', decide_eq_true_eq, and_assoc, pend_ne_zero_iff]
  split <;> rfl

/-! The instructions whose meanings name the next state (R260, R262 to R264, R266). -/

/-- Settles O30: each is `undefinedOpcode` of its byte, which raises the sticky pair and nothing else. -/
theorem undefinedOpcodesContinue : Obligations.UndefinedOpcodesContinue := by
  intro s i op hop
  exact ⟨exec_undefined hop s, (undefined_row hop).encode_eq⟩

/-- Settles O28: each meaning is the flag writes that the statement names, then `complete 4`. -/
theorem nopStopDiEiResult : Obligations.NopStopDiEiResult := by
  intro s pad
  exact ⟨rfl, rfl, rfl, rfl, rfl, rfl, rfl, rfl⟩

/-! 0xCB with its sub-opcode (R265). The decoder's operand tables invert the codes of Safety.lean, so the fields of a
sub-opcode give it back. -/

theorem locCode_ofCode {n : Nat} (h : n < 8) : locCode (Loc8.ofCode n) = n := by
  interval_cases n <;> rfl

theorem rotCode_ofCode {n : Nat} (h : n < 8) : rotCode (RotOp.ofCode n) = n := by
  interval_cases n <;> rfl

theorem index8_toNat_ofCode {n : Nat} (h : n < 8) : (Index8.ofCode n).toNat = n := by
  interval_cases n <;> rfl

theorem fieldX_lt (op : Byte) : fieldX op < 4 := by
  have := op.isLt
  unfold fieldX
  omega

theorem fieldY_lt (op : Byte) : fieldY op < 8 := Nat.mod_lt _ (by decide)

theorem fieldZ_lt (op : Byte) : fieldZ op < 8 := Nat.mod_lt _ (by decide)

/-- An opcode is its three fields (R111). -/
theorem ofNat_fields (op : Byte) : BitVec.ofNat 8 (64 * fieldX op + 8 * fieldY op + fieldZ op) = op := by
  have hfields : 64 * fieldX op + 8 * fieldY op + fieldZ op = op.toNat := by
    unfold fieldX fieldY fieldZ
    omega
  rw [hfields, BitVec.ofNat_toNat, BitVec.setWidth_eq]

/-- Every sub-opcode is the row of the CB instruction that the decoder's CB map selects. -/
theorem cbInstr_row (cb : Byte) : CbRow cb (cbInstr cb) := by
  refine ⟨?_, rfl⟩
  have hfields := ofNat_fields cb
  have hx := fieldX_lt cb
  have hy := fieldY_lt cb
  have hz := fieldZ_lt cb
  unfold cbInstr
  generalize fieldX cb = x, fieldY cb = y, fieldZ cb = z at *
  subst hfields
  match x with
  | 0 => simpa [rotCode_ofCode hy, locCode_ofCode hz] using (rot_row (.ofCode y) (.ofCode z)).encode_eq
  | 1 => simpa [index8_toNat_ofCode hy, locCode_ofCode hz] using (bit_row (.ofCode y) (.ofCode z)).encode_eq
  | 2 => simpa [index8_toNat_ofCode hy, locCode_ofCode hz] using (res_row (.ofCode y) (.ofCode z)).encode_eq
  | 3 => simpa [index8_toNat_ofCode hy, locCode_ofCode hz] using (set_row (.ofCode y) (.ofCode z)).encode_eq

/-- 0xCB with its sub-opcode means what the selected CB instruction means. -/
theorem exec_cbInstr (cb : Byte) (s : State) : exec (cbInstr cb) s = exec (.prefix_cb cb) s := by
  change _ = exec_prefix_cb cb s
  unfold cbInstr exec_prefix_cb
  dsimp only
  generalize fieldX cb = x
  match x with
  | 0 => exact exec_rot _ _ s
  | 1 => exact exec_bit _ _ s
  | 2 => exact exec_res _ _ s
  | x + 3 => exact exec_set _ _ s

/-- Settles O31: the CB instruction is the one that the decoder's CB map selects; `prefix_cb` has its bytes and its
meaning. -/
theorem prefixRunsCbInstruction : Obligations.PrefixRunsCbInstruction := by
  intro s cb
  have row := cbInstr_row cb
  have hbytes : encode (.prefix_cb cb) = encode (cbInstr cb) := row.encode_eq.symm
  obtain ⟨t, ht, -⟩ := exec_stores (cbInstr cb) s
  refine ⟨cbInstr cb, t, ?_, row.encode_eq, ht, exec_cbInstr cb s ▸ ht⟩
  rw [hbytes]
  simpa using row.decode_encode []

end Sys2Proof.Machine
end

section
/-! SUPPORT. The CPU step that executes an instruction (49_machine_step.md R280, R283, R291): what the fetch changes of
the CPU's control state, and the EI latch over one such step. -/

namespace Sys2Proof.Machine

/-! The step that executes. -/

/-- With no idle step and no dispatch, a CPU step is the instruction, woken from HALT (R280). -/
theorem cpuStep_of_executes {s : State} (h : executes s = true) : cpuStep s = executeOne (s.setHalted false) := by
  unfold cpuStep
  by_cases hp : s.pend = 0#5
  · have hawake : s.cpu.halted = false := by simpa [executes, hp] using h
    simp [hp, hawake]
  · have hmasked : s.cpu.ime = false := by simpa [executes, hp] using h
    simp [hp, hmasked]

theorem executeOne_of_exec {s u : State} (h : exec (fetchInstr s) (instrFetched s) = .next u) :
    executeOne s = .next (promoteEi s.cpu.imePending u) := by
  rw [executeOne, h]

/-! The fetch. -/

/-- The two fetches (R291): the HALT-bug fetch clears the latch and leaves PC, the other moves PC past the opcode. -/
theorem opcodeFetched_pc (s : State) : (opcodeFetched s).cpu.pc =
    if s.haltBug = true ∧ s.cpu.haltBugLatch = true then s.cpu.pc else s.cpu.pc + 1#16 := by
  simp only [opcodeFetched, Bool.and_eq_true]
  split <;> rfl

/-- Waking from HALT does not change which instruction is fetched. -/
theorem fetchInstr_setHalted (s : State) (v : Bool) : fetchInstr (s.setHalted v) = fetchInstr s := by
  have hpc : (opcodeFetched (s.setHalted v)).cpu.pc = (opcodeFetched s).cpu.pc :=
    (opcodeFetched_pc _).trans (opcodeFetched_pc s).symm
  rw [fetchInstr, fetchInstr, hpc]
  rfl

/-- A fetch changes PC and the HALT-bug latch only (R291). -/
theorem instrFetched_control (s : State) : (instrFetched s).cpu.ime = s.cpu.ime
    ∧ (instrFetched s).cpu.imePending = s.cpu.imePending ∧ (instrFetched s).cpu.halted = s.cpu.halted := by
  unfold instrFetched opcodeFetched
  split <;> exact ⟨rfl, rfl, rfl⟩

/-- A one-byte instruction is fetched with its opcode. -/
theorem instrFetched_pc_of_length_one {s : State} (h : (fetchInstr s).length = 1) :
    (instrFetched s).cpu.pc = (opcodeFetched s).cpu.pc := by
  rw [instrFetched, h]
  exact BitVec.add_zero _

/-! The EI latch (45_system.md R264). -/

/-- DI alone clears the latch. -/
theorem imePending_of_exec {i : Instr} {s t : State} (hexec : exec i s = .next t) (hdi : i ≠ .di)
    (hpending : s.cpu.imePending = true) : t.cpu.imePending = true := by
  by_cases hei : i = .ei
  · subst hei
    obtain rfl := Host.Outcome.next.inj hexec
    rfl
  · obtain ⟨-, hkeep, -⟩ := controlStateFrame i s t hexec
    rw [hkeep hdi hei, hpending]

/-- The step of EI sets the latch and promotes nothing. -/
theorem executeOne_ei {s : State} (hi : fetchInstr s = .ei) (hpending : s.cpu.imePending = false) :
    executeOne s = .next (((instrFetched s).setImePending true).spend 4) := by
  have hexec : exec (fetchInstr s) (instrFetched s) = .next (((instrFetched s).setImePending true).spend 4) := by
    rw [hi]
    rfl
  rw [executeOne_of_exec hexec, hpending]
  rfl

/-- An instruction that begins with the latch set ends with it clear, and with IME set unless it is DI (R283). -/
theorem executeOne_of_imePending {s : State} (hpending : s.cpu.imePending = true) :
    ∃ t, executeOne s = .next t ∧ t.cpu.imePending = false ∧ t.cpu.ime = decide (fetchInstr s ≠ .di) := by
  obtain ⟨u, hu, -⟩ := exec_stores (fetchInstr s) (instrFetched s)
  refine ⟨_, executeOne_of_exec hu, ?_⟩
  by_cases hdi : fetchInstr s = .di
  · rw [hdi] at hu
    obtain rfl := Host.Outcome.next.inj hu
    simp [promoteEi, hdi]
  · obtain ⟨-, hlatch, -⟩ := instrFetched_control s
    have hlatch' := imePending_of_exec hu hdi (hlatch.trans hpending)
    simp [promoteEi, hpending, hlatch', hdi]

/-- Settles O48: EI sets the latch only; the next instruction keeps it unless it is DI, and the promotion at its end turns
it into IME. -/
theorem eiDelay : Obligations.EiDelay := by
  intro s hime hexecutes
  rw [cpuStep_of_executes hexecutes]
  refine ⟨fun hpending hi => ?ei, fun hpending => ?next⟩
  case ei =>
    have hi' : fetchInstr (s.setHalted false) = .ei := by rw [fetchInstr_setHalted, hi]
    obtain ⟨hime', -, hhalted⟩ := instrFetched_control (s.setHalted false)
    have hpc := instrFetched_pc_of_length_one (congrArg Instr.length hi')
    exact ⟨_, executeOne_ei hi' hpending, hime'.trans hime, rfl, hhalted, hpc.trans (opcodeFetched_pc _)⟩
  case next =>
    rw [← fetchInstr_setHalted s false]
    exact executeOne_of_imePending hpending

end Sys2Proof.Machine
end

section
/-! SUPPORT. OAM DMA (48_ppu.md R340): the raw read (20_memory.md R64) row by row, and the bytes that the DMA's turns
leave in OAM. -/

namespace Sys2Proof.Machine

/-! The raw read. -/

theorem rawRead_vram (s : State) {a : Word} (h : 0x8000 ≤ a.toNat ∧ a.toNat ≤ 0x9FFF) :
    rawRead s a = Memory.read s.ppu.vram (a.toNat - 0x8000) := by
  simp only [rawRead, busRead, regionOf_eq (r := .vram) h, Bool.false_eq_true, if_false]

theorem rawRead_oam (s : State) {a : Word} (h : 0xFE00 ≤ a.toNat ∧ a.toNat ≤ 0xFE9F) :
    rawRead s a = Memory.read s.ppu.oam (a.toNat - 0xFE00) := by
  simp only [rawRead, busRead, regionOf_eq (r := .oam) h, Bool.false_eq_true, if_false]

/-- The raw read is the CPU's read with both windows open (R62, R64). -/
theorem rawRead_eq (s : State) (a : Word) : rawRead s a =
    if 0x8000 ≤ a.toNat ∧ a.toNat ≤ 0x9FFF then Memory.read s.ppu.vram (a.toNat - 0x8000)
    else if 0xFE00 ≤ a.toNat ∧ a.toNat ≤ 0xFE9F then Memory.read s.ppu.oam (a.toNat - 0xFE00)
    else memRead s a := by
  split_ifs with hvram hoam
  · exact rawRead_vram s hvram
  · exact rawRead_oam s hoam
  · have hrow := regionOf_contains a.toNat
    unfold rawRead memRead busRead
    generalize regionOf a.toNat = row at hrow ⊢
    cases row
    case vram => exact absurd hrow hvram
    case oam => exact absurd hrow hoam
    all_goals rfl

/-- Outside its row, OAM is not looked at. -/
theorem rawRead_setOam (s : State) (m : Memory) {a : Word} (h : ¬(0xFE00 ≤ a.toNat ∧ a.toNat ≤ 0xFE9F)) :
    rawRead { s with ppu := { s.ppu with oam := m } } a = rawRead s a := by
  have hrow := regionOf_contains a.toNat
  unfold rawRead busRead
  generalize regionOf a.toNat = row at hrow ⊢
  cases row
  case oam => exact absurd hrow h
  all_goals rfl

/-! The DMA's turns. -/

/-- The address that turn `i` reads, as a number. -/
theorem dmaSource_toNat (v : Byte) {i : Nat} (hi : i < 160) :
    (joinBytes v 0x00#8 + BitVec.ofNat 16 i).toNat = v.toNat * 256 + i := by
  have hv := v.isLt
  rw [BitVec.toNat_add, joinBytes_toNat, BitVec.toNat_ofNat, BitVec.toNat_ofNat]
  omega

theorem dmaSource_eq (v : Byte) {i : Nat} (hi : i < 160) :
    joinBytes v 0x00#8 + BitVec.ofNat 16 i = BitVec.ofNat 16 (v.toNat * 256 + i) := by
  rw [← dmaSource_toNat v hi, BitVec.ofNat_toNat, BitVec.setWidth_eq]

/-- Turn `i` reads what it would have read before the DMA: a turn inside OAM reads the cell that it writes. -/
theorem rawRead_dmaSource (v : Byte) (s : State) {m : Memory} {i : Nat} (hi : i < 160)
    (hm : Memory.read m i = Memory.read s.ppu.oam i) :
    rawRead { s with ppu := { s.ppu with oam := m } } (joinBytes v 0x00#8 + BitVec.ofNat 16 i)
      = rawRead s (BitVec.ofNat 16 (v.toNat * 256 + i)) := by
  rw [← dmaSource_eq v hi]
  by_cases hoam : 0xFE00 ≤ v.toNat * 256 + i ∧ v.toNat * 256 + i ≤ 0xFE9F
  · have hcell : v.toNat * 256 + i - 0xFE00 = i := by omega
    rw [← dmaSource_toNat v hi] at hoam hcell
    rw [rawRead_oam _ hoam, rawRead_oam s hoam, hcell, hm]
  · rw [← dmaSource_toNat v hi] at hoam
    exact rawRead_setOam s m hoam

/-- After the first `n` turns the first `n` bytes are copied and the rest of OAM is as before. -/
theorem oamDma_firstTurns (v : Byte) (s : State) (hwf : Memory.wf Config.oamSize s.ppu.oam = true) {n : Nat}
    (hn : n ≤ 160) :
    ∃ m, (List.range n).foldl (fun t i => oamPut t i (rawRead t (joinBytes v 0x00#8 + BitVec.ofNat 16 i))) s
        = { s with ppu := { s.ppu with oam := m } }
      ∧ Memory.wf Config.oamSize m = true
      ∧ ∀ j, Memory.read m j =
          if j < n then rawRead s (BitVec.ofNat 16 (v.toNat * 256 + j)) else Memory.read s.ppu.oam j := by
  induction n with
  | zero => exact ⟨s.ppu.oam, rfl, hwf, fun j => rfl⟩
  | succ n ih =>
    obtain ⟨m, hrun, hm, hread⟩ := ih (by omega)
    have hcell : Memory.read m n = Memory.read s.ppu.oam n := by rw [hread, if_neg (Nat.lt_irrefl n)]
    refine ⟨Memory.write m n (rawRead s (BitVec.ofNat 16 (v.toNat * 256 + n))), ?_,
      Memory.wf_write _ hm hn, fun j => ?_⟩
    · rw [List.range_succ, List.foldl_append, hrun, List.foldl_cons, List.foldl_nil, rawRead_dmaSource v s hn hcell]
      rfl
    · rw [Memory.read_write hm, hread]
      by_cases hj : j = n
      · rw [if_pos hj, if_pos (by omega), hj]
      · have hlt : j < n + 1 ↔ j < n := by omega
        simp only [if_neg hj, hlt]

/-- Settles O43: the 160 turns copy byte by byte, and none disturbs a later one's source. -/
theorem oamDmaCopies : Obligations.OamDmaCopies := by
  intro s v hmem
  obtain ⟨-, hoam, -⟩ := (memoryWf_iff s).1 hmem
  obtain ⟨m, hrun, -, hread⟩ := oamDma_firstTurns v { s with ppu := { s.ppu with dma := v } } hoam (Nat.le_refl 160)
  have hwrite : memWrite s 0xFF46#16 v = { s with ppu := { s.ppu with dma := v, oam := m } } := hrun
  refine ⟨fun i hi => ?_, ⟨m, hwrite⟩, rawRead_eq s⟩
  rw [hwrite, hread, if_pos hi]

end Sys2Proof.Machine
end

section
/-! SUPPORT. One dot of the PPU (48_ppu.md R310 to R314), said once: the events it can bring (scan, rendering, the line
ends, VBlank entry, the frame's wrap) and the requests it makes; then the statements on positions and requests. -/

namespace Sys2Proof.Machine

/-! What one dot does. -/

/-- What the body of a dot makes of the PPU `p`, by the position that the dot starts from (R310). -/
inductive DotBody (p : Ppu) : Ppu → Prop
  | scan (hy : p.ly < 144) (hx : p.lx = 79) :
      DotBody p { p with lx := p.lx + 1, mode := .drawing, sprites := (oamScan p).sprites }
  | render (hy : p.ly < 144) (hx : p.lx = 251) :
      DotBody p { p with
        lx := p.lx + 1, mode := .hblank, fb := (renderLine p).fb, windowLine := (renderLine p).windowLine }
  | nextLine (hy : p.ly < 143) (hx : p.lx = 455) : DotBody p { p with ly := p.ly + 1, lx := 0, mode := .oamScan }
  | vblankEntry (hy : p.ly = 143) (hx : p.lx = 455) :
      DotBody p { p with ly := p.ly + 1, lx := 0, mode := .vblank, out := p.fb, frameReady := true }
  | nextVblankLine (hy : 144 ≤ p.ly) (hlast : p.ly ≠ 153) (hx : p.lx = 455) :
      DotBody p { p with ly := p.ly + 1, lx := 0 }
  | wrap (hy : p.ly = 153) (hx : p.lx = 455) : DotBody p { p with ly := 0, lx := 0, mode := .oamScan, windowLine := 0 }
  | quiet (hvisible : p.ly < 144 → p.lx ≠ 79 ∧ p.lx ≠ 251) (hx : p.lx ≠ 455) : DotBody p { p with lx := p.lx + 1 }

theorem ppuAdvance_visible {p : Ppu} (hy : p.ly < 144) : DotBody p (ppuAdvance { p with lx := p.lx + 1 }) := by
  simp only [ppuAdvance, if_pos hy, Config.scanDots, Config.drawDots, Config.dotsPerLine, Config.visibleLines]
  split_ifs with hscan hrender hend hentry
  · exact .scan hy (by omega)
  · exact .render hy (by omega)
  · exact .vblankEntry (by omega) (by omega)
  · exact .nextLine (by omega) (by omega)
  · exact .quiet (fun _ => by omega) (by omega)

theorem ppuAdvance_vblank {p : Ppu} (hy : ¬p.ly < 144) : DotBody p (ppuAdvance { p with lx := p.lx + 1 }) := by
  simp only [ppuAdvance, if_neg hy, Config.dotsPerLine, Config.linesPerFrame]
  split_ifs with hend hwrap
  · exact .wrap (by omega) (by omega)
  · exact .nextVblankLine (by omega) (by omega) (by omega)
  · exact .quiet (fun h => absurd h hy) (by omega)

theorem ppuAdvance_body (p : Ppu) : DotBody p (ppuAdvance { p with lx := p.lx + 1 }) := by
  by_cases hy : p.ly < 144
  · exact ppuAdvance_visible hy
  · exact ppuAdvance_vblank hy

/-- IF after a dot whose body leaves the PPU `q`: the VBlank request (R313) and the STAT line's rise (R314). -/
def dotFlags (p q : Ppu) (f : BitVec 5) : BitVec 5 :=
  let f := if p.ly = 143 ∧ p.lx = 455 then f ||| Source.vblank.mask else f
  if statLine q && !p.statLinePrev then f ||| Source.lcdStat.mask else f

theorem DotBody.statLinePrev {p q : Ppu} (h : DotBody p q) : q.statLinePrev = p.statLinePrev := by cases h <;> rfl

/-- Everything a dot does with the LCD on: its body, the remembered STAT line, and the two requests. -/
theorem ppuDot_body {s : State} (hon : lcdOn s.ppu = true) : ∃ q, DotBody s.ppu q ∧ ppuDot s = { s with
    ppu := { q with statLinePrev := statLine q }
    intr := { s.intr with flags := dotFlags s.ppu q s.intr.flags } } := by
  have hbody := ppuAdvance_body s.ppu
  have hprev := hbody.statLinePrev
  have hentry : entersVblank { s.ppu with lx := s.ppu.lx + 1 } = true ↔ s.ppu.ly = 143 ∧ s.ppu.lx = 455 := by
    simp [entersVblank, Config.visibleLines, Config.dotsPerLine]
  refine ⟨_, hbody, ?_⟩
  simp only [ppuDot, hon, Bool.not_true, Bool.false_eq_true, if_false, statLineUpdate, dotFlags, hentry]
  generalize ppuAdvance { s.ppu with lx := s.ppu.lx + 1 } = q at hprev
  rw [← hprev]
  by_cases he : s.ppu.ly = 143 ∧ s.ppu.lx = 455
  · simp only [if_pos he, request_ppu]
    split_ifs <;> rfl
  · simp only [if_neg he]
    split_ifs <;> rfl

/-! The requests. -/

/-- The mask of a source is its bit (R350). -/
theorem Source.mask_getLsbD (i : Source) (n : Nat) : i.mask.getLsbD n = decide (i.bit = n) := by
  have hmask : i.mask = BitVec.twoPow 5 i.bit := by cases i <;> rfl
  have hbit : i.bit < 5 := by cases i <;> decide
  rw [hmask, BitVec.getLsbD_twoPow, decide_eq_true hbit, Bool.true_and]

section
variable (p q : Ppu) (f : BitVec 5)

/-- A bit of IF after a dot, through the masks of the two requests. -/
theorem dotFlags_getLsbD (n : Nat) : (dotFlags p q f).getLsbD n =
    (f.getLsbD n || (decide (p.ly = 143 ∧ p.lx = 455) && Source.vblank.mask.getLsbD n)
      || (statLine q && !p.statLinePrev && Source.lcdStat.mask.getLsbD n)) := by
  unfold dotFlags
  split_ifs <;> simp [*]

theorem dotFlags_vblank : (dotFlags p q f).getLsbD 0 = (f.getLsbD 0 || decide (p.ly = 143 ∧ p.lx = 455)) := by
  rw [dotFlags_getLsbD, Source.mask_getLsbD, Source.mask_getLsbD]
  simp only [Source.bit, decide_true, Bool.and_true, Nat.one_ne_zero, decide_false, Bool.and_false, Bool.or_false]

theorem dotFlags_lcdStat : (dotFlags p q f).getLsbD 1 = (f.getLsbD 1 || (statLine q && !p.statLinePrev)) := by
  rw [dotFlags_getLsbD, Source.mask_getLsbD, Source.mask_getLsbD]
  simp only [Source.bit, decide_true, Bool.and_true, Nat.zero_ne_one, decide_false, Bool.and_false, Bool.or_false]

theorem dotFlags_other {n : Nat} (hn : 2 ≤ n) : (dotFlags p q f).getLsbD n = f.getLsbD n := by
  have h0 : 0 ≠ n := by omega
  have h1 : 1 ≠ n := by omega
  rw [dotFlags_getLsbD, Source.mask_getLsbD, Source.mask_getLsbD]
  simp only [Source.bit, h0, h1, decide_false, Bool.and_false, Bool.or_false]

end

theorem DotBody.regs {p q : Ppu} (h : DotBody p q) : SamePpuRegs p q := by
  cases h <;> exact ⟨rfl, rfl, rfl, rfl, rfl, rfl, rfl, rfl, rfl, rfl, rfl, rfl, rfl⟩

/-- Settles O54: the line is remembered as the dot leaves it, its enables and LYC are no dot's to change, and the STAT
mask is bit 1. -/
theorem statInterruptOnRisingEdge : Obligations.StatInterruptOnRisingEdge := by
  intro s hon
  obtain ⟨q, hbody, hdot⟩ := ppuDot_body hon
  have hregs := hbody.regs
  rw [hdot, ← hregs.statEn, ← hregs.lyc]
  exact ⟨rfl, dotFlags_lcdStat _ _ _, dotFlags_other _ _ _ (Nat.le_refl 2), dotFlags_other _ _ _ (by decide),
    dotFlags_other _ _ _ (by decide), rfl⟩

/-! The position. -/

section
variable {p q : Ppu}

/-- One dot is one position on in the frame (R310, R316). -/
theorem DotBody.position (h : DotBody p q) (hly : p.ly < 154) (hlx : p.lx < 456) :
    q.ly * 456 + q.lx = (p.ly * 456 + p.lx + 1) % 70224 ∧ q.ly < 154 ∧ q.lx < 456 := by
  cases h <;> dsimp only <;> omega

theorem modeAt_vblank {ly : Nat} (lx : Nat) (h : 144 ≤ ly) : modeAt ly lx = .vblank := if_pos h

/-- The mode stays the function of the position (R311). -/
theorem DotBody.mode_eq (h : DotBody p q) (hlx : p.lx < 456) (hmode : p.mode = modeAt p.ly p.lx) :
    q.mode = modeAt q.ly q.lx := by
  cases h with
  | scan hy hx => simp [modeAt, hx, hy]
  | render hy hx => simp [modeAt, hx, hy]
  | nextLine hy hx => simp [modeAt, hy]
  | vblankEntry hy hx => simp [modeAt, hy]
  | nextVblankLine hy hlast hx =>
    have hy' : 144 ≤ p.ly + 1 := by omega
    exact (hmode.trans (modeAt_vblank _ hy)).trans (modeAt_vblank _ hy').symm
  | wrap hy hx => rfl
  | quiet hvisible hx =>
    refine hmode.trans ?_
    by_cases hy : 144 ≤ p.ly
    · rw [modeAt_vblank _ hy, modeAt_vblank _ hy]
    · obtain ⟨h79, h251⟩ := hvisible (by omega)
      have h80 : p.lx + 1 < 80 ↔ p.lx < 80 := by omega
      have h252 : p.lx + 1 < 252 ↔ p.lx < 252 := by omega
      simp only [modeAt, h80, h252]

end

/-- Dots change nothing of the PPU's registers, so the LCD stays on. -/
theorem lcdOn_ppuTick {s : State} (n : Nat) (hon : lcdOn s.ppu = true) : lcdOn (ppuTick n s).ppu = true := by
  obtain ⟨p, f, htick, hregs⟩ := ppuTick_eq n s
  rw [htick, lcdOn, hregs.lcdc]
  exact hon

/-- What `n` dots do to the position and its mode. -/
theorem ppuTick_position {s : State} (n : Nat) (hon : lcdOn s.ppu = true) (hly : s.ppu.ly < 154)
    (hlx : s.ppu.lx < 456) :
    dotOfFrame (ppuTick n s) = (dotOfFrame s + n) % 70224 ∧ (ppuTick n s).ppu.ly < 154 ∧ (ppuTick n s).ppu.lx < 456
      ∧ (s.ppu.mode = modeAt s.ppu.ly s.ppu.lx →
          (ppuTick n s).ppu.mode = modeAt (ppuTick n s).ppu.ly (ppuTick n s).ppu.lx) := by
  induction n with
  | zero => exact ⟨by rw [ppuTick_zero, dotOfFrame]; omega, hly, hlx, id⟩
  | succ n ih =>
    obtain ⟨hpos, hly', hlx', hmode⟩ := ih
    obtain ⟨q, hbody, hdot⟩ := ppuDot_body (lcdOn_ppuTick n hon)
    obtain ⟨hposq, hlyq, hlxq⟩ := hbody.position hly' hlx'
    rw [ppuTick_succ', hdot]
    refine ⟨?_, hlyq, hlxq, fun h => hbody.mode_eq hlx' (hmode h)⟩
    rw [dotOfFrame] at hpos
    rw [dotOfFrame, hposq, hpos, Nat.mod_add_mod, Nat.add_assoc]

/-- A PPU with the registers and memories of another differs from it in its internal state alone. -/
theorem SamePpuRegs.eq {p q : Ppu} (h : SamePpuRegs p q) : q = { p with
    ly := q.ly, lx := q.lx, mode := q.mode, sprites := q.sprites, windowLine := q.windowLine
    statLinePrev := q.statLinePrev, fb := q.fb, out := q.out, frameReady := q.frameReady } := by
  obtain ⟨h1, h2, h3, h4, h5, h6, h7, h8, h9, h10, h11, h12, h13⟩ := h
  rw [← h1, ← h2, ← h3, ← h4, ← h5, ← h6, ← h7, ← h8, ← h9, ← h10, ← h11, ← h12, ← h13]

/-- Settles O52: the position and mode dot by dot, the frame by the registers that every dot keeps. -/
theorem ppuPositionAfterDots : Obligations.PpuPositionAfterDots := by
  intro s n hon hly hlx
  obtain ⟨hpos, hly', hlx', hmode⟩ := ppuTick_position n hon hly hlx
  obtain ⟨p, f, htick, hregs⟩ := ppuTick_eq n s
  refine ⟨hpos, hly', hlx', hmode, p, f, ?_⟩
  rw [htick, ← hregs.eq]

/-! The frame's end. -/

/-- VBlank entry, and it alone, hands the frame over (R313). -/
theorem DotBody.handOver {p q : Ppu} (h : DotBody p q) :
    (p.ly = 143 ∧ p.lx = 455 → q.ly = 144 ∧ q.mode = .vblank ∧ q.out = p.fb ∧ q.fb = p.fb ∧ q.frameReady = true)
      ∧ (¬(p.ly = 143 ∧ p.lx = 455) → q.out = p.out ∧ q.frameReady = p.frameReady) := by
  constructor
  · rintro ⟨hly, hlx⟩
    cases h
    case vblankEntry => exact ⟨by dsimp only; omega, rfl, rfl, rfl, rfl⟩
    all_goals omega
  · intro hno
    cases h
    case vblankEntry hy hx => exact absurd ⟨hy, hx⟩ hno
    all_goals exact ⟨rfl, rfl⟩

/-- LY goes from 143 to 144 in the last dot of line 143 and in no other. -/
theorem DotBody.ly_eq_144_iff {p q : Ppu} (h : DotBody p q) (hly : p.ly = 143) : q.ly = 144 ↔ p.lx = 455 := by
  cases h <;> dsimp only <;> omega

/-- Position 65,663 of the frame is the last dot of line 143. -/
theorem vblankEntry_position {s : State} (n : Nat) (hon : lcdOn s.ppu = true) (hly : s.ppu.ly < 154)
    (hlx : s.ppu.lx < 456) :
    ((ppuTick n s).ppu.ly = 143 ∧ (ppuTick (n + 1) s).ppu.ly = 144) ↔ (dotOfFrame s + n) % 70224 = 65663 := by
  obtain ⟨hpos, -, hlx', -⟩ := ppuTick_position n hon hly hlx
  obtain ⟨q, hbody, hdot⟩ := ppuDot_body (lcdOn_ppuTick n hon)
  have hlast : (ppuTick n s).ppu.ly = 143 ∧ (ppuTick (n + 1) s).ppu.ly = 144
      ↔ (ppuTick n s).ppu.ly = 143 ∧ (ppuTick n s).ppu.lx = 455 := by
    rw [ppuTick_succ', hdot]
    exact and_congr_right hbody.ly_eq_144_iff
  rw [hlast, ← hpos, dotOfFrame]
  omega

/-- Settles O53: the request and the hand-over are those of VBlank entry; in a frame's length of dots one starts at that
position. -/
theorem vblankOncePerFrame : Obligations.VblankOncePerFrame := by
  intro s hon hly hlx
  obtain ⟨q, hbody, hdot⟩ := ppuDot_body hon
  obtain ⟨hentry, hother⟩ := hbody.handOver
  rw [hdot]
  refine ⟨dotFlags_vblank _ _ _, hentry, hother, (65663 + 70224 - dotOfFrame s) % 70224, Nat.mod_lt _ (by decide),
    fun j hj => ?_⟩
  rw [vblankEntry_position j hon hly hlx, dotOfFrame]
  omega

/-! LCD off and on (R320). -/

section
variable {p : Ppu} {v : Byte}

theorem lcdOn_setLcdc (p : Ppu) (v : Byte) : lcdOn { p with lcdc := v } = v.getLsbD 7 := rfl

theorem lcdcWrite_off (hon : lcdOn p = true) (hv : v.getLsbD 7 = false) :
    lcdcWrite v p = Ppu.restart { p with lcdc := v } .hblank := by
  simp only [lcdcWrite, lcdOn_setLcdc, hon, hv]
  rfl

theorem lcdcWrite_on (hoff : lcdOn p = false) (hv : v.getLsbD 7 = true) :
    lcdcWrite v p = Ppu.restart { p with lcdc := v } .oamScan := by
  simp only [lcdcWrite, lcdOn_setLcdc, hoff, hv]
  rfl

theorem lcdcWrite_same (hsame : lcdOn p = v.getLsbD 7) : lcdcWrite v p = { p with lcdc := v } := by
  simp only [lcdcWrite, lcdOn_setLcdc, hsame, Bool.and_not_self, Bool.not_and_self, Bool.false_eq_true, if_false]

end

/-- With the LCD off a dot does nothing. -/
theorem ppuDot_off {s : State} (hoff : lcdOn s.ppu = false) : ppuDot s = s := by
  rw [ppuDot, hoff]
  rfl

/-- Settles O55: the write's three cases, and a dot that does nothing, `n` times. -/
theorem lcdSwitch : Obligations.LcdSwitch := fun _ _ n =>
  ⟨rfl, lcdcWrite_off, lcdcWrite_on, lcdcWrite_same, fun hoff => Function.iterate_fixed (ppuDot_off hoff) n, rfl, rfl⟩

end Sys2Proof.Machine
end

section
/-! SUPPORT. The OAM scan (48_ppu.md R325, R308): the list of all entries of the line, of which the scan keeps the first
ten. -/

namespace Sys2Proof.Machine

/-- The OAM entries whose rows contain the line, in OAM order. -/
def lineSprites (p : Ppu) : List Sprite := ((List.range 40).map (oamEntry p)).filter (spriteOnLine p)

/-- The first ten are kept (R325). -/
theorem oamScan_sprites (p : Ppu) : (oamScan p).sprites = (lineSprites p).take 10 := rfl

theorem mem_lineSprites {p : Ppu} {e : Sprite} :
    e ∈ lineSprites p ↔ ∃ i < 40, oamEntry p i = e ∧ spriteOnLine p e = true := by
  simp only [lineSprites, List.mem_filter, List.mem_map, List.mem_range]
  constructor
  · rintro ⟨⟨i, hi, he⟩, hline⟩
    exact ⟨i, hi, he, hline⟩
  · rintro ⟨i, hi, he, hline⟩
    exact ⟨⟨i, hi, he⟩, hline⟩

/-- The geometry of R325, on integers. -/
theorem spriteOnLine_iff (p : Ppu) (e : Sprite) :
    spriteOnLine p e = true ↔ e.y.toNat ≤ p.ly + 16 ∧ p.ly + 16 < e.y.toNat + spriteHeight p := by
  simp only [spriteOnLine, Bool.and_eq_true, decide_eq_true_eq]

theorem lineSprites_pairwise (p : Ppu) : (lineSprites p).Pairwise (fun e e' => e.index < e'.index) := by
  have hentries : ((List.range 40).map (oamEntry p)).Pairwise (fun e e' => e.index < e'.index) :=
    List.pairwise_map.2 List.pairwise_lt_range
  exact hentries.filter _

/-- An entry of the line that is not among the ten comes after them. -/
theorem lineSprites_leftOut {p : Ppu} {e : Sprite} (he : e ∈ lineSprites p) (hout : e ∉ (lineSprites p).take 10) :
    ((lineSprites p).take 10).length = 10 ∧ ∀ e' ∈ (lineSprites p).take 10, e'.index < e.index := by
  have hsplit := List.take_append_drop 10 (lineSprites p)
  have hdrop : e ∈ (lineSprites p).drop 10 := by
    rw [← hsplit, List.mem_append] at he
    exact he.resolve_left hout
  have horder := lineSprites_pairwise p
  rw [← hsplit, List.pairwise_append] at horder
  obtain ⟨-, -, hbefore⟩ := horder
  have hlong := List.length_pos_of_mem hdrop
  rw [List.length_drop] at hlong
  exact ⟨List.length_take_of_le (by omega), fun e' he' => hbefore e' he' e hdrop⟩

/-- Settles O56: the scan is the first ten of the line's entries, a list in OAM order. -/
theorem oamScanKeepsFirstTen : Obligations.OamScanKeepsFirstTen := by
  intro p
  refine ⟨List.length_take_le _ _, fun e he => ?sound, (lineSprites_pairwise p).sublist (List.take_sublist _ _),
    fun i hi hline hout => ?leftOut, rfl⟩
  case sound =>
    obtain ⟨i, hi, rfl, hline⟩ := mem_lineSprites.1 (List.mem_of_mem_take he)
    exact ⟨hi, (spriteOnLine_iff p _).1 hline, rfl, rfl, rfl, rfl, rfl⟩
  case leftOut =>
    have hmem : oamEntry p i ∈ lineSprites p := mem_lineSprites.2 ⟨i, hi, rfl, (spriteOnLine_iff p _).2 hline⟩
    exact lineSprites_leftOut hmem fun hkept => hout _ hkept rfl

end Sys2Proof.Machine
end

section
/-! SUPPORT. The pixels of a line in the terms of Safety.lean (48_ppu.md R305, R307, R326 to R330): colour indexes as
numbers over VRAM's own index, and the sprite that wins a column. -/

namespace Sys2Proof.Machine

/-! Colour indexes and shades as numbers. -/

theorem shadeOf_toNat (palette : Byte) (i : BitVec 2) : (shadeOf palette i).toNat = paletteShade palette i.toNat := by
  rw [shadeOf, BitVec.extractLsb'_toNat, Nat.shiftRight_eq_div_pow, pow_mul, paletteShade]
  rfl

theorem colourIndex_toNat (b0 b1 : Byte) (n : Nat) :
    (colourIndex b0 b1 n).toNat = 2 * (b1.getLsbD n).toNat + (b0.getLsbD n).toNat := by
  rw [colourIndex, bitOf, bitOf]
  cases b0.getLsbD n <;> cases b1.getLsbD n <;> rfl

section
variable (p : Ppu) (x : Nat)

theorem vramAt_add (k : Nat) : vramAt p (0x8000 + k) = Memory.read p.vram k := by
  rw [vramAt, Nat.add_sub_cancel_left]

/-- The two bytes of a tile row on the bus (R307). -/
theorem rowIndex_toNat (row n : Nat) :
    (colourIndex (vramAt p (0x8000 + row)) (vramAt p (0x8000 + row + 1)) n).toNat = rowColour p row n := by
  rw [colourIndex_toNat, Nat.add_assoc, vramAt_add, vramAt_add, rowColour]

/-- The tile area by its index in VRAM: the signed area starts at 0x1000 and continues at 0x0800 (R327). -/
theorem tileAddress_eq (t : Byte) : tileAddress p t = 0x8000 +
    (if p.lcdc.getLsbD 4 then 16 * t.toNat else if t.toNat < 128 then 0x1000 + 16 * t.toNat else 16 * t.toNat) := by
  unfold tileAddress bitOf
  split_ifs <;> omega

theorem mapBase_eq (bit : Nat) : mapBase p bit = 0x8000 + if p.lcdc.getLsbD bit then 0x1C00 else 0x1800 := by
  unfold mapBase bitOf
  split_ifs <;> rfl

/-- A pixel of the tile map that a bit of LCDC selects (R327). -/
theorem tilePixel_toNat (bit px py : Nat) : (tilePixel p (tileIndexAt p (mapBase p bit) px py) px py).toNat =
    tileColour p (if p.lcdc.getLsbD bit then 0x1C00 else 0x1800) px py := by
  rw [tilePixel, tileAddress_eq, Nat.add_assoc, rowIndex_toNat, tileIndexAt, mapBase_eq, Nat.add_assoc, Nat.add_assoc,
    vramAt_add, ← Nat.add_assoc]
  rfl

/-! The backdrop (R328, R329). -/

theorem windowCovers_iff : windowCovers p x = true ↔ windowAt p x := by
  simp only [windowCovers, bitOf, windowAt, Bool.and_eq_true, decide_eq_true_eq, ge_iff_le, and_assoc]

variable {p x}

theorem bgWindowIndex_off (hbg : p.lcdc.getLsbD 0 = false) : (bgWindowIndex p x).toNat = 0 := by
  rw [bgWindowIndex, bitOf, hbg]
  rfl

theorem bgWindowIndex_window (hbg : p.lcdc.getLsbD 0 = true) (hw : windowAt p x) :
    (bgWindowIndex p x).toNat = windowColour p x := by
  rw [bgWindowIndex, bitOf, hbg, if_neg (by decide), if_pos ((windowCovers_iff p x).2 hw), tilePixel_toNat,
    windowColour]

theorem bgWindowIndex_background (hbg : p.lcdc.getLsbD 0 = true) (hw : ¬windowAt p x) :
    (bgWindowIndex p x).toNat = backgroundColour p x := by
  rw [bgWindowIndex, bitOf, hbg, if_neg (by decide), if_neg (mt (windowCovers_iff p x).1 hw), tilePixel_toNat,
    backgroundColour]

/-! A sprite's colour at a column (R330). -/

theorem spriteHeight_eq_16_iff (p : Ppu) : spriteHeight p = 16 ↔ p.lcdc.getLsbD 2 = true := by
  unfold spriteHeight bitOf
  cases p.lcdc.getLsbD 2 <;> decide

theorem spriteHeight_pos (p : Ppu) : 0 < spriteHeight p := by
  unfold spriteHeight
  split_ifs <;> decide

/-- The low bit of a tall sprite's tile index is dropped (R330). -/
theorem and_0xFE_toNat (t : Byte) : (t &&& 0xFE#8).toNat = t.toNat / 2 * 2 := by
  revert t
  decide +kernel

/-- Does the sprite overlap the column and, at the height current now, the line (R330)? -/
def covers (p : Ppu) (x : Nat) (e : Sprite) : Prop :=
  e.x.toNat ≤ x + 8 ∧ x < e.x.toNat ∧ p.ly + 16 < e.y.toNat + spriteHeight p

theorem spriteColour_not_covers {e : Sprite} (h : ¬covers p x e) : spriteColour p x e = 0 := if_neg h

theorem spriteIndexAt_not_covers {e : Sprite} (h : ¬covers p x e) : spriteIndexAt p x e = none := by
  by_cases hcolumn : x + 8 < e.x.toNat ∨ x + 8 - e.x.toNat > 7
  · exact if_pos hcolumn
  · have hrow : p.ly + 16 - e.y.toNat ≥ spriteHeight p := by
      have := spriteHeight_pos p
      unfold covers at h
      omega
    exact (if_neg hcolumn).trans (if_pos hrow)

/-- A sprite that covers the column shows the pixel of its tile there, unless that is colour 0. -/
theorem spriteIndexAt_covers {e : Sprite} (h : covers p x e) :
    ∃ idx : BitVec 2, idx.toNat = spriteColour p x e ∧ spriteIndexAt p x e = if idx = 0#2 then none else some idx := by
  have hcolumn : ¬(x + 8 < e.x.toNat ∨ x + 8 - e.x.toNat > 7) := by unfold covers at h; omega
  have hrow : ¬p.ly + 16 - e.y.toNat ≥ spriteHeight p := by
    have := spriteHeight_pos p
    unfold covers at h
    omega
  simp only [spriteIndexAt, if_neg hcolumn, if_neg hrow]
  refine ⟨_, ?_, rfl⟩
  rw [Nat.add_assoc, rowIndex_toNat]
  simp only [spriteHeight_eq_16_iff, and_0xFE_toNat]
  exact (if_pos h).symm

theorem spriteIndexAt_eq_none {e : Sprite} (h : spriteColour p x e = 0) : spriteIndexAt p x e = none := by
  by_cases hc : covers p x e
  · obtain ⟨idx, hcolour, hidx⟩ := spriteIndexAt_covers hc
    have hzero : idx = 0#2 := BitVec.eq_of_toNat_eq (hcolour.trans h)
    rw [hidx, if_pos hzero]
  · exact spriteIndexAt_not_covers hc

theorem spriteIndexAt_eq_some {e : Sprite} (h : spriteColour p x e ≠ 0) :
    ∃ idx, spriteIndexAt p x e = some idx ∧ idx.toNat = spriteColour p x e := by
  have hc : covers p x e := by_contra fun hc => h (spriteColour_not_covers hc)
  obtain ⟨idx, hcolour, hidx⟩ := spriteIndexAt_covers hc
  have hne : idx ≠ 0#2 := fun hzero => h (by rw [← hcolour, hzero]; rfl)
  exact ⟨idx, by rw [hidx, if_neg hne], hcolour⟩

/-! The winner of a column (R330). -/

theorem betterSprite_transparent {e : Sprite} (best : Candidate) (h : spriteColour p x e = 0) :
    betterSprite p x best e = best := by
  rw [betterSprite, spriteIndexAt_eq_none h]

theorem foldl_betterSprite_transparent {es : List Sprite} (best : Candidate) (h : ∀ e ∈ es, spriteColour p x e = 0) :
    es.foldl (betterSprite p x) best = best := by
  induction es with
  | nil => rfl
  | cons e es ih =>
    rw [List.foldl_cons, betterSprite_transparent best (h e List.mem_cons_self)]
    exact ih fun e' he' => h e' (List.mem_cons_of_mem _ he')

/-- Does every sprite of the candidate lie strictly to the right of `e`? -/
def RightOf (e : Sprite) (best : Candidate) : Prop := ∀ c ∈ best, e.x.toNat < c.1.x.toNat

theorem rightOf_betterSprite {e e' : Sprite} {best : Candidate} (h : RightOf e best)
    (he' : spriteColour p x e' = 0 ∨ e.x.toNat < e'.x.toNat) : RightOf e (betterSprite p x best e') := by
  obtain hzero | hlt := he'
  · rwa [betterSprite_transparent best hzero]
  · unfold betterSprite
    split
    · exact h
    · split
      · exact fun c hc => Option.mem_some.1 hc ▸ hlt
      · split_ifs
        · exact fun c hc => Option.mem_some.1 hc ▸ hlt
        · exact h

theorem rightOf_foldl {e : Sprite} {es : List Sprite} {best : Candidate} (h : RightOf e best)
    (hes : ∀ e' ∈ es, spriteColour p x e' = 0 ∨ e.x.toNat < e'.x.toNat) :
    RightOf e (es.foldl (betterSprite p x) best) := by
  induction es generalizing best with
  | nil => exact h
  | cons e' es ih =>
    exact ih (rightOf_betterSprite h (hes e' List.mem_cons_self)) fun d hd => hes d (List.mem_cons_of_mem _ hd)

/-- A sprite takes the column from a candidate to its right. -/
theorem betterSprite_takes {e : Sprite} {idx : BitVec 2} {best : Candidate} (h : RightOf e best)
    (hidx : spriteIndexAt p x e = some idx) : betterSprite p x best e = some (e, idx) := by
  rw [betterSprite, hidx]
  cases best with
  | none => rfl
  | some c => exact if_pos (h c rfl)

/-- It keeps the column against sprites that are not to its left. -/
theorem foldl_betterSprite_keeps {e : Sprite} {es : List Sprite} (idx : BitVec 2)
    (hes : ∀ e' ∈ es, spriteColour p x e' = 0 ∨ e.x.toNat ≤ e'.x.toNat) :
    es.foldl (betterSprite p x) (some (e, idx)) = some (e, idx) := by
  induction es with
  | nil => rfl
  | cons e' es ih =>
    have hstep : betterSprite p x (some (e, idx)) e' = some (e, idx) := by
      obtain hzero | hle := hes e' List.mem_cons_self
      · exact betterSprite_transparent _ hzero
      · unfold betterSprite
        split
        · rfl
        · exact if_neg (Nat.not_lt.2 hle)
    rw [List.foldl_cons, hstep]
    exact ih fun d hd => hes d (List.mem_cons_of_mem _ hd)

/-- The winner: strictly left of the opaque sprites before it, and not right of those after it. -/
theorem foldl_betterSprite_winner {before after : List Sprite} {e : Sprite} {idx : BitVec 2}
    (hidx : spriteIndexAt p x e = some idx)
    (hbefore : ∀ e' ∈ before, spriteColour p x e' = 0 ∨ e.x.toNat < e'.x.toNat)
    (hafter : ∀ e' ∈ after, spriteColour p x e' = 0 ∨ e.x.toNat ≤ e'.x.toNat) :
    (before ++ e :: after).foldl (betterSprite p x) none = some (e, idx) := by
  have hright : RightOf e (before.foldl (betterSprite p x) none) := rightOf_foldl (by simp [RightOf]) hbefore
  rw [List.foldl_append, List.foldl_cons, betterSprite_takes hright hidx, foldl_betterSprite_keeps idx hafter]

/-! The pixels of a line (R326). -/

/-- With sprites off, or none opaque at the column, the backdrop shows. -/
theorem spritePixel_none (bgidx : BitVec 2) (h : p.lcdc.getLsbD 1 = false ∨ ∀ e ∈ p.sprites, spriteColour p x e = 0) :
    spritePixel p x bgidx = none := by
  rw [spritePixel, bitOf]
  obtain hoff | htransparent := h
  · rw [hoff]; rfl
  · rw [foldl_betterSprite_transparent none htransparent, ite_self]

/-- The winner's shade, unless it yields to the backdrop. -/
theorem spritePixel_winner (bgidx : BitVec 2) {before after : List Sprite} {e : Sprite} (hon : p.lcdc.getLsbD 1 = true)
    (hsprites : p.sprites = before ++ e :: after) (hopaque : spriteColour p x e ≠ 0)
    (hbefore : ∀ e' ∈ before, spriteColour p x e' = 0 ∨ e.x.toNat < e'.x.toNat)
    (hafter : ∀ e' ∈ after, spriteColour p x e' = 0 ∨ e.x.toNat ≤ e'.x.toNat) :
    ∃ idx : BitVec 2, idx.toNat = spriteColour p x e ∧ spritePixel p x bgidx =
      if e.attr.getLsbD 7 = true ∧ bgidx ≠ 0#2 then none
      else some (shadeOf (if e.attr.getLsbD 4 then p.obp1 else p.obp0) idx) := by
  obtain ⟨idx, hidx, hcolour⟩ := spriteIndexAt_eq_some hopaque
  refine ⟨idx, hcolour, ?_⟩
  rw [spritePixel, hsprites, foldl_betterSprite_winner hidx hbefore hafter]
  simp [bitOf, hon]

theorem linePixel_backdrop {idx : Nat} (hidx : (bgWindowIndex p x).toNat = idx)
    (h : p.lcdc.getLsbD 1 = false ∨ ∀ e ∈ p.sprites, spriteColour p x e = 0) :
    (linePixel p x).toNat = paletteShade p.bgp idx := by
  rw [linePixel, spritePixel_none _ h, Option.getD_none, shadeOf_toNat, hidx]

theorem linePixel_sprite {idx : Nat} (hidx : (bgWindowIndex p x).toNat = idx) {before after : List Sprite} {e : Sprite}
    (hon : p.lcdc.getLsbD 1 = true) (hsprites : p.sprites = before ++ e :: after) (hopaque : spriteColour p x e ≠ 0)
    (hbefore : ∀ e' ∈ before, spriteColour p x e' = 0 ∨ e.x.toNat < e'.x.toNat)
    (hafter : ∀ e' ∈ after, spriteColour p x e' = 0 ∨ e.x.toNat ≤ e'.x.toNat) :
    (linePixel p x).toNat = if e.attr.getLsbD 7 = true ∧ idx ≠ 0 then paletteShade p.bgp idx
      else paletteShade (if e.attr.getLsbD 4 then p.obp1 else p.obp0) (spriteColour p x e) := by
  obtain ⟨colour, hcolour, hpixel⟩ := spritePixel_winner (bgWindowIndex p x) hon hsprites hopaque hbefore hafter
  have hzero : bgWindowIndex p x ≠ 0#2 ↔ idx ≠ 0 := hidx ▸ not_congr BitVec.toNat_inj.symm
  rw [linePixel, hpixel, ← hcolour, ← hidx, ← shadeOf_toNat, ← shadeOf_toNat, hidx]
  simp only [hzero]
  split_ifs <;> rfl

variable (p) in
/-- The pixel that `RenderLine` leaves in the frame buffer. -/
theorem renderLine_pixel (hy : p.ly < 144) (hx : x < 160) : ((renderLine p).fb[p.ly]'hy)[x]'hx = linePixel p x := by
  simp [renderLine]

variable (p) in
/-- Some column of 0 to 159 is a window pixel exactly when WX is at most 166 (R329). -/
theorem windowDrawn_iff : windowDrawn p = true ↔
    p.lcdc.getLsbD 0 = true ∧ p.lcdc.getLsbD 5 = true ∧ p.wy.toNat ≤ p.ly ∧ p.wx.toNat ≤ 166 := by
  simp only [windowDrawn, bitOf, Bool.and_eq_true, List.any_eq_true, List.mem_range, windowCovers_iff, windowAt,
    Config.screenWidth]
  refine and_congr_right fun _ => ⟨?_, ?_⟩
  · rintro ⟨x, hx, hon, hy, hwx⟩
    exact ⟨hon, hy, by omega⟩
  · rintro ⟨hon, hy, hwx⟩
    exact ⟨159, by decide, hon, hy, by omega⟩

theorem renderLine_otherRow {y : Nat} (hy : y < 144) (hne : y ≠ p.ly) : (renderLine p).fb[y]'hy = p.fb[y]'hy :=
  Vector.getElem_setIfInBounds_ne hy (Ne.symm hne)

theorem renderLine_windowLine (p : Ppu) : (renderLine p).windowLine = p.windowLine +
    (if p.lcdc.getLsbD 0 = true ∧ p.lcdc.getLsbD 5 = true ∧ p.wy.toNat ≤ p.ly ∧ p.wx.toNat ≤ 166 then 1 else 0) := by
  simp only [← windowDrawn_iff, renderLine]
  split_ifs <;> rfl

/-! When a line is rendered (R312). -/

/-- VBlank renders no line and scans nothing; the window line counter is cleared at the wrap. -/
theorem DotBody.vblankLine {q : Ppu} (h : DotBody p q) (hy : 144 ≤ p.ly) : q.fb = p.fb ∧ q.sprites = p.sprites
    ∧ q.windowLine = if p.ly = 153 ∧ p.lx = 455 then 0 else p.windowLine := by
  cases h
  case wrap hlast hx => exact ⟨rfl, rfl, (if_pos ⟨hlast, hx⟩).symm⟩
  case nextVblankLine hlast hx => exact ⟨rfl, rfl, (if_neg fun h => hlast h.1).symm⟩
  case quiet hx => exact ⟨rfl, rfl, (if_neg fun h => hx h.2).symm⟩
  all_goals omega

/-- A visible line is rendered at dot 251 and scanned for at dot 79. -/
theorem DotBody.visibleLine {q : Ppu} (h : DotBody p q) (hy : p.ly < 144) :
    (p.lx = 251 → q.fb = (renderLine p).fb ∧ q.windowLine = (renderLine p).windowLine)
      ∧ (p.lx ≠ 251 → q.fb = p.fb ∧ q.windowLine = p.windowLine)
      ∧ (p.lx = 79 → q.sprites = (oamScan p).sprites) ∧ (p.lx ≠ 79 → q.sprites = p.sprites) := by
  cases h
  case scan hx => simp [hx]
  case render hx => simp [hx]
  case nextLine hx => simp [hx]
  case vblankEntry hx => simp [hx]
  case nextVblankLine | wrap => omega
  case quiet hvisible _ =>
    obtain ⟨h79, h251⟩ := hvisible hy
    simp [h79, h251]

end

/-- Settles O57: a pixel is its backdrop's shade or its winner's, the window counter counts drawn lines, and the dots of
rendering are those of the dot's events. -/
theorem renderedLine : Obligations.RenderedLine := by
  refine ⟨fun p x hx hy => ?pixel, fun p => ⟨fun y h hne => renderLine_otherRow h hne, renderLine_windowLine p, rfl⟩,
    fun s hon hy => ?vblank, fun s hon hy => ?visible⟩
  case pixel =>
    dsimp only
    rw [renderLine_pixel p hy hx]
    refine ⟨fun hbg => ?_, fun hbg hw => ?_, fun hbg hw => ?_⟩
    · have hidx := bgWindowIndex_off (x := x) hbg
      exact ⟨linePixel_backdrop hidx, fun _ _ _ => linePixel_sprite hidx⟩
    · have hidx := bgWindowIndex_window hbg hw
      exact ⟨linePixel_backdrop hidx, fun _ _ _ => linePixel_sprite hidx⟩
    · have hidx := bgWindowIndex_background hbg hw
      exact ⟨linePixel_backdrop hidx, fun _ _ _ => linePixel_sprite hidx⟩
  case vblank =>
    obtain ⟨q, hbody, hdot⟩ := ppuDot_body hon
    rw [hdot]
    exact hbody.vblankLine hy
  case visible =>
    obtain ⟨q, hbody, hdot⟩ := ppuDot_body hon
    rw [hdot]
    exact hbody.visibleLine hy

end Sys2Proof.Machine
end

section
/-! SUPPORT. The invariant (49_machine_step.md R292) by the part of the machine that each clause is about: the PPU, the
cartridge, the memories and the CPU; what keeps each part, and that every step keeps them all. -/

namespace Sys2Proof.Machine

/-! The parts of the invariant. -/

/-- The clauses on the PPU: position, mode, window line counter, sprites (48_ppu.md R310, R311, R325, R329). -/
structure PpuInvariant (p : Ppu) : Prop where
  ly : p.ly < 154
  lx : p.lx < 456
  modeOn : lcdOn p = true → p.mode = modeAt p.ly p.lx
  lcdOff : lcdOn p = false → p.ly = 0 ∧ p.lx = 0 ∧ p.mode = .hblank
  windowLine : p.windowLine ≤ linesRendered p.ly p.lx
  sprites : p.sprites.length ≤ 10

/-- The clauses on the MBC3's registers (20_memory.md R87 to R89). -/
structure CartInvariant (k : Cartridge) : Prop where
  romBank : k.romBank ≠ 0#7
  ramBank : k.ramBank.toNat ≤ 3 ∨ (0x08 ≤ k.ramBank.toNat ∧ k.ramBank.toNat ≤ 0x0C)
  rtc : k.rtcLatched = RtcRegs.zero

theorem invariant_iff (s : State) : Invariant s ↔ PpuInvariant s.ppu ∧ CartInvariant s.cart ∧ s.memoryWf = true
    ∧ s.cpu.f &&& 0x0F#8 = 0x00#8 ∧ (s.haltBug = false → s.cpu.haltBugLatch = false) := by
  constructor
  · rintro ⟨hf, hly, hlx, hon, hoff, hwindow, hsprites, hrom, hram, hrtc, hmem, hlatch⟩
    exact ⟨⟨hly, hlx, hon, hoff, hwindow, hsprites⟩, ⟨hrom, hram, hrtc⟩, hmem, hf, hlatch⟩
  · rintro ⟨⟨hly, hlx, hon, hoff, hwindow, hsprites⟩, ⟨hrom, hram, hrtc⟩, hmem, hf, hlatch⟩
    exact ⟨hf, hly, hlx, hon, hoff, hwindow, hsprites, hrom, hram, hrtc, hmem, hlatch⟩

section
variable {s t : State}

/-- A change that keeps the memories, the cartridge and the other clauses. -/
theorem Invariant.of_parts (h : Invariant s) (hp : PpuInvariant t.ppu) (hf : t.cpu.f &&& 0x0F#8 = 0x00#8)
    (hlatch : t.haltBug = false → t.cpu.haltBugLatch = false) (hvram : t.ppu.vram = s.ppu.vram := by rfl)
    (hoam : t.ppu.oam = s.ppu.oam := by rfl) (hcart : t.cart = s.cart := by rfl) (hwram : t.wram = s.wram := by rfl)
    (hhram : t.hram = s.hram := by rfl) (hboot : t.boot = s.boot := by rfl) : Invariant t := by
  obtain ⟨-, hk, hmem, -⟩ := (invariant_iff s).1 h
  exact (invariant_iff t).2 ⟨hp, hcart ▸ hk, memoryWf_of hmem hvram hoam hwram hhram hcart hboot, hf, hlatch⟩

theorem Invariant.ppuInvariant (h : Invariant s) : PpuInvariant s.ppu := ((invariant_iff s).1 h).1

/-- A change of anything that no clause names. -/
theorem Invariant.of_eq (h : Invariant s) (hppu : t.ppu = s.ppu := by rfl) (hcart : t.cart = s.cart := by rfl)
    (hwram : t.wram = s.wram := by rfl) (hhram : t.hram = s.hram := by rfl) (hboot : t.boot = s.boot := by rfl)
    (hbug : t.haltBug = s.haltBug := by rfl) (hf : t.cpu.f = s.cpu.f := by rfl)
    (hlatch : t.cpu.haltBugLatch = s.cpu.haltBugLatch := by rfl) : Invariant t :=
  h.of_parts (hppu ▸ h.ppuInvariant) (hf ▸ h.flagsLow) (hbug ▸ hlatch ▸ h.haltBugLatch) (by rw [hppu]) (by rw [hppu])
    hcart hwram hhram hboot

end

/-! Bus writes. -/

/-- The clauses look at LCDC, the position, the mode, the window line counter and the sprites only. -/
theorem PpuInvariant.of_eq {p q : Ppu} (h : PpuInvariant p) (hlcdc : q.lcdc = p.lcdc := by rfl)
    (hly : q.ly = p.ly := by rfl) (hlx : q.lx = p.lx := by rfl) (hmode : q.mode = p.mode := by rfl)
    (hwindow : q.windowLine = p.windowLine := by rfl) (hsprites : q.sprites = p.sprites := by rfl) :
    PpuInvariant q := by
  obtain ⟨h1, h2, h3, h4, h5, h6⟩ := h
  constructor <;> simpa only [lcdOn, hlcdc, hly, hlx, hmode, hwindow, hsprites]

/-- Position 0, in mode 2 with the LCD on and mode 0 with it off. -/
theorem PpuInvariant.restart {p : Ppu} {m : PpuMode} (hon : lcdOn p = true → m = .oamScan)
    (hoff : lcdOn p = false → m = .hblank) : PpuInvariant (p.restart m) where
  ly := Nat.zero_lt_succ _
  lx := Nat.zero_lt_succ _
  modeOn := hon
  lcdOff h := ⟨rfl, rfl, hoff h⟩
  windowLine := Nat.zero_le _
  sprites := Nat.zero_le _

/-- A change of LCDC bit 7 starts the PPU in mode 2 or stops it in mode 0 (48_ppu.md R320). -/
theorem PpuInvariant.lcdcWrite {p : Ppu} (h : PpuInvariant p) (v : Byte) : PpuInvariant (lcdcWrite v p) := by
  cases hv : v.getLsbD 7 <;> cases hlcd : lcdOn p
  case false.true =>
    rw [lcdcWrite_off hlcd hv]
    exact .restart (fun hon => absurd (hv.symm.trans hon) (by decide)) fun _ => rfl
  case true.false =>
    rw [lcdcWrite_on hlcd hv]
    exact .restart (fun _ => rfl) fun hoff => absurd (hv.symm.trans hoff) (by decide)
  all_goals
    have hsame : lcdOn p = v.getLsbD 7 := hlcd.trans hv.symm
    rw [lcdcWrite_same hsame]
    obtain ⟨hly, hlx, hon, hoff, hwindow, hsprites⟩ := h
    exact ⟨hly, hlx, fun h => hon (hsame.trans h), fun h => hoff (hsame.trans h), hwindow, hsprites⟩

theorem ioWrite_ppuInvariant {s : State} (a : Nat) (v : Byte) (h : PpuInvariant s.ppu) :
    PpuInvariant (ioWrite s a v).ppu := by
  unfold ioWrite
  split
  case h_1 =>
    obtain ⟨f, hf⟩ := joypadUpdate_eq { s with joypad := { s.joypad with sel := v.extractLsb' 4 2 } }
    rw [p1Write, hf]
    exact h
  case h_7 => exact h.lcdcWrite v
  case h_12 =>
    obtain ⟨m, hm, -⟩ := oamDma_eq v s
    rw [hm]
    exact h.of_eq
  case h_18 => split <;> exact h
  all_goals exact h.of_eq

/-- Only an I/O register or a byte of VRAM or OAM is written of the PPU. -/
theorem memWrite_ppuInvariant {s : State} (a : Word) (v : Byte) (h : PpuInvariant s.ppu) :
    PpuInvariant (memWrite s a v).ppu := by
  unfold memWrite busWrite
  cases regionOf a.toNat
  case io => exact ioWrite_ppuInvariant _ v h
  case vram | oam =>
    dsimp only
    split
    · exact h
    · exact h.of_eq
  all_goals exact h

/-- Bank 0 is selected as bank 1 (20_memory.md R87). -/
theorem romBank_ne_zero (v : Byte) : (if v &&& 0x7F#8 = 0x00#8 then 1#7 else v.setWidth 7) ≠ 0#7 := by
  revert v
  decide +kernel

/-- The bank controller takes legal codes only, and latches the clock that does not advance (20_memory.md R86 to R89). -/
theorem CartInvariant.cartRegWrite {k : Cartridge} (h : CartInvariant k) (a : Nat) (v : Byte) :
    CartInvariant (cartRegWrite k a v) := by
  obtain ⟨hrom, hram, hrtc⟩ := h
  unfold Sys2Proof.Machine.cartRegWrite
  split
  · exact ⟨hrom, hram, hrtc⟩
  · split
    · exact ⟨hrom, hram, hrtc⟩
    split
    · exact ⟨romBank_ne_zero v, hram, hrtc⟩
    split
    · split
      · next hcode => exact ⟨hrom, hcode, hrtc⟩
      · exact ⟨hrom, hram, hrtc⟩
    · refine ⟨hrom, hram, ?_⟩
      dsimp only
      split
      · rfl
      · exact hrtc

theorem ioWrite_cart (s : State) (a : Nat) (v : Byte) : (ioWrite s a v).cart = s.cart := by
  unfold ioWrite
  split
  case h_1 =>
    obtain ⟨f, hf⟩ := joypadUpdate_eq { s with joypad := { s.joypad with sel := v.extractLsb' 4 2 } }
    rw [p1Write, hf]
  case h_12 =>
    obtain ⟨m, hm, -⟩ := oamDma_eq v s
    rw [hm]
  case h_18 => split <;> rfl
  all_goals rfl

theorem memWrite_cartInvariant {s : State} (a : Word) (v : Byte) (h : CartInvariant s.cart) :
    CartInvariant (memWrite s a v).cart := by
  unfold memWrite busWrite
  cases regionOf a.toNat
  case rom0 => exact h.cartRegWrite _ v
  case romN => exact h.cartRegWrite _ v
  case cartRam =>
    obtain ⟨m, hm⟩ := cartRamWrite_launch s.cart a.toNat v
    simp only [hm]
    exact ⟨h.romBank, h.ramBank, h.rtc⟩
  case io => exact (ioWrite_cart s _ v).symm ▸ h
  case vram | oam =>
    dsimp only
    split <;> exact h
  all_goals exact h

theorem Invariant.memWrite {s : State} (h : Invariant s) (a : Word) (v : Byte) : Invariant (memWrite s a v) := by
  obtain ⟨hp, hk, hmem, hcpu⟩ := (invariant_iff s).1 h
  rw [invariant_iff, memWrite_cpu, memWrite_haltBug]
  exact ⟨memWrite_ppuInvariant a v hp, memWrite_cartInvariant a v hk, memWrite_memoryWf a v hmem, hcpu⟩

/-! Instructions. -/

theorem Effects.invariant {s t : State} (h : Effects s t) (hs : Invariant s) : Invariant t := by
  induction h with
  | none => exact hs
  | write a v _ ih => exact ih.memWrite a v
  | flags v _ ih => exact ih.of_parts ih.ppuInvariant (maskFlags_low v) ih.haltBugLatch
  | reg r v _ ih => cases r <;> exact ih.of_eq
  | pair p v _ ih => cases p <;> exact ih.of_eq
  | pc _ _ ih => exact ih.of_eq
  | sp _ _ ih => exact ih.of_eq
  | spend _ _ ih => exact ih.of_eq

/-- HALT sets the HALT-bug latch only with HALT_BUG (45_system.md R261). -/
theorem halt_invariant {s t : State} (h : exec .halt s = .next t) (hs : Invariant s) : Invariant t := by
  obtain rfl := Host.Outcome.next.inj h
  split
  · next hbug =>
    simp only [Bool.and_eq_true] at hbug
    exact hs.of_parts hs.ppuInvariant hs.flagsLow (by simp [hbug])
  · exact hs.of_eq

theorem exec_invariant {i : Instr} {s t : State} (h : exec i s = .next t) (hs : Invariant s) : Invariant t := by
  obtain he | ⟨rfl, -⟩ | ⟨-, rfl⟩ | ⟨-, rfl⟩ | ⟨-, rfl⟩ | ⟨op, -, rfl⟩ := exec_cases h
  · exact he.invariant hs
  · exact halt_invariant h hs
  all_goals exact hs.of_eq

/-! The CPU step. -/

theorem instrFetched_invariant {s : State} (h : Invariant s) : Invariant (instrFetched s) := by
  have hfetched : Invariant (opcodeFetched s) := by
    unfold opcodeFetched
    split
    · exact h.of_parts h.ppuInvariant h.flagsLow fun _ => rfl
    · exact h.of_eq
  exact hfetched.of_eq

theorem promoteEi_invariant (latch : Bool) {s : State} (h : Invariant s) : Invariant (promoteEi latch s) := by
  unfold promoteEi
  split
  · exact h.of_eq
  · exact h

theorem takeInterrupt_invariant (i : Source) {s : State} (h : Invariant s) : Invariant (takeInterrupt i s) :=
  (takeInterrupt_effects i s).invariant h.of_eq

theorem cpuStep_invariant {s t : State} (h : cpuStep s = .next t) (hs : Invariant s) : Invariant t := by
  have hwoken : Invariant (s.setHalted false) := hs.of_eq
  obtain rfl | rfl | hexec := cpuStep_next h
  · exact hs.of_eq
  · exact takeInterrupt_invariant _ hwoken
  · obtain ⟨u, hu, rfl⟩ := executeOne_next hexec
    exact promoteEi_invariant _ (exec_invariant hu (instrFetched_invariant hwoken))

/-! The host's events and the devices' ticks. -/

theorem hostAct_invariant (e : HostAction) {s : State} (h : Invariant s) : Invariant (hostAct e s) := by
  cases e with
  | setButtons b =>
    obtain ⟨f, hf⟩ := joypadUpdate_eq { s with joypad := { s.joypad with buttons := b } }
    rw [hostAct, setButtons, hf]
    exact h.of_eq
  | takeFrame => exact h.of_parts h.ppuInvariant.of_eq h.flagsLow h.haltBugLatch

theorem deliverFrom_invariant (es : List HostEvent) {s : State} (h : Invariant s) : Invariant (deliverFrom es s) := by
  induction es generalizing s with
  | nil => exact h.of_eq
  | cons e es ih =>
    unfold deliverFrom
    split
    · exact ih (hostAct_invariant e.action h)
    · exact h.of_eq

/-- The window line counter grows by at most one, and only where a line is rendered (48_ppu.md R326, R329). -/
theorem DotBody.windowLine_le {p q : Ppu} (h : DotBody p q) (hwindow : p.windowLine ≤ linesRendered p.ly p.lx) :
    q.windowLine ≤ linesRendered q.ly q.lx := by
  have hstep : (renderLine p).windowLine ≤ p.windowLine + 1 := by
    rw [renderLine_windowLine]
    split <;> omega
  cases h with
  | render hy hx =>
    have hlines : linesRendered p.ly (p.lx + 1) = linesRendered p.ly p.lx + 1 := by
      unfold linesRendered
      split_ifs <;> omega
    exact hlines ▸ hstep.trans (Nat.add_le_add_right hwindow 1)
  | wrap => exact Nat.zero_le _
  | scan | nextLine | vblankEntry | nextVblankLine | quiet =>
    refine hwindow.trans ?_
    unfold linesRendered
    dsimp only
    split_ifs <;> omega

theorem DotBody.sprites_length {p q : Ppu} (h : DotBody p q) (hsprites : p.sprites.length ≤ 10) :
    q.sprites.length ≤ 10 := by
  cases h with
  | scan => exact List.length_take_le _ _
  | _ => exact hsprites

theorem DotBody.invariant {p q : Ppu} (h : DotBody p q) (hon : lcdOn p = true) (hp : PpuInvariant p) :
    PpuInvariant q := by
  have honq : lcdOn q = true := by rw [lcdOn, h.regs.lcdc]; exact hon
  obtain ⟨-, hly, hlx⟩ := h.position hp.ly hp.lx
  exact ⟨hly, hlx, fun _ => h.mode_eq hp.lx (hp.modeOn hon), fun hoff => absurd (honq.symm.trans hoff) (by decide),
    h.windowLine_le hp.windowLine, h.sprites_length hp.sprites⟩

theorem ppuDot_invariant {s : State} (h : Invariant s) : Invariant (ppuDot s) := by
  cases hlcd : lcdOn s.ppu
  · rw [ppuDot_off hlcd]
    exact h
  · obtain ⟨q, hbody, hdot⟩ := ppuDot_body hlcd
    have hq := hbody.invariant hlcd h.ppuInvariant
    rw [hdot]
    exact h.of_parts hq.of_eq h.flagsLow h.haltBugLatch hbody.regs.vram hbody.regs.oam

theorem tickDevices_invariant {s : State} (h : Invariant s) : Invariant (tickDevices s) := by
  have htimer : Invariant (timerTick s.cycles s) := by
    obtain ⟨tima, f, htick⟩ := timerTick_eq s.cycles s
    rw [htick]
    exact h.of_eq
  have hppu : ∀ n, Invariant (ppuTick n (timerTick s.cycles s)) := fun n => by
    induction n with
    | zero => exact htimer
    | succ n ih =>
      rw [ppuTick_succ']
      exact ppuDot_invariant ih
  exact (hppu s.cycles).of_eq

/-- Settles O60: the host's events, the CPU step and the devices' ticks each keep the invariant. -/
theorem stepKeepsInvariant : Obligations.StepKeepsInvariant := by
  intro s t hs h
  obtain ⟨u, hu, rfl⟩ := step_next h
  exact tickDevices_invariant (cpuStep_invariant hu (deliverFrom_invariant s.inputs hs))

end Sys2Proof.Machine
end

section
/-! SUPPORT. What an instruction costs and where it leaves PC (49_machine_step.md R286, R293): one law over all instructions,
by families, then the conditional transfers, whose two costs R430 of 70_reset_and_hazards.md lists. -/

namespace Sys2Proof.Machine

/-! How a meaning ends. -/

/-- A T-cycle count that a CPU step can have (R286). -/
abbrev StepCost (n : Nat) : Prop := n % 4 = 0 ∧ 4 ≤ n ∧ n ≤ 24

/-- How the meaning of `i` ends on `s`: with the count of a CPU step, and with PC kept unless `i` is a control transfer. -/
inductive Ending (i : Instr) (s : State) : Result → Prop
  | keepsPc {n : Nat} {u : State} (cost : StepCost n) (pc : u.cpu.pc = s.cpu.pc) : Ending i s (complete n u)
  | transfer {n : Nat} {u : State} (cost : StepCost n) (h : isTransfer i = true) : Ending i s (complete n u)

theorem Ending.transferIf {i : Instr} {s u : State} (cc : Cond) {taken notTaken : Nat} (htaken : StepCost taken)
    (hnot : StepCost notTaken) (h : isTransfer i = true) :
    Ending i s (if s.cond cc then complete taken u else complete notTaken s) := by
  split
  · exact .transfer htaken h
  · exact .transfer hnot h

theorem Ending.cost {i : Instr} {s t : State} (h : Ending i s (.next t)) : StepCost t.cycles := by
  generalize hr : Host.Outcome.next t = r at h
  cases h <;> obtain rfl := Host.Outcome.next.inj hr <;> assumption

theorem Ending.pc {i : Instr} {s t : State} (h : Ending i s (.next t)) (hi : isTransfer i = false) :
    t.cpu.pc = s.cpu.pc := by
  generalize hr : Host.Outcome.next t = r at h
  cases h with
  | keepsPc _ hpc =>
    obtain rfl := Host.Outcome.next.inj hr
    exact hpc
  | transfer _ htransfer => exact absurd (hi.symm.trans htransfer) (by decide)

/-! Every instruction. -/

theorem set8_cpu_pc (x : Loc8) (v : Byte) (s : State) : (set8 x v s).cpu.pc = s.cpu.pc := by
  cases x with
  | reg r => exact setReg_cpu_pc s r v
  | mhl => rw [set8, memWrite_cpu]

theorem locCycles_stepCost (x : Loc8) {register memory : Nat} (hr : StepCost register) (hm : StepCost memory) :
    StepCost (locCycles x register memory) := by
  cases x
  · exact hr
  · exact hm

theorem operand8Cycles_stepCost (x : Operand8) : StepCost (operand8Cycles x) := by
  rcases x with (r | _) | v
  · exact (by decide : StepCost 4)
  · exact (by decide : StepCost 8)
  · exact (by decide : StepCost 8)

theorem isTransfer_jrCond (cc : Cond) (e : Byte) : isTransfer (Instr.jrCond cc e) = true := by cases cc <;> rfl

theorem isTransfer_jpCond (cc : Cond) (a : Word) : isTransfer (Instr.jpCond cc a) = true := by cases cc <;> rfl

theorem isTransfer_callCond (cc : Cond) (a : Word) : isTransfer (Instr.callCond cc a) = true := by cases cc <;> rfl

theorem isTransfer_retCond (cc : Cond) : isTransfer (Instr.retCond cc) = true := by cases cc <;> rfl

theorem isTransfer_rst (y : Index8) : isTransfer (Instr.rst y) = true := by cases y <;> rfl

theorem rotAt_ending (i : Instr) (op : RotOp) (x : Loc8) (s : State) : Ending i s (rotAt op x s) :=
  .keepsPc (locCycles_stepCost x (by decide) (by decide)) (set8_cpu_pc x _ s)

theorem bitAt_ending (i : Instr) (n : Index8) (x : Loc8) (s : State) : Ending i s (bitAt n x s) :=
  .keepsPc (locCycles_stepCost x (by decide) (by decide)) rfl

theorem resAt_ending (i : Instr) (n : Index8) (x : Loc8) (s : State) : Ending i s (resAt n x s) :=
  .keepsPc (locCycles_stepCost x (by decide) (by decide)) (set8_cpu_pc x _ s)

theorem setAt_ending (i : Instr) (n : Index8) (x : Loc8) (s : State) : Ending i s (setAt n x s) :=
  .keepsPc (locCycles_stepCost x (by decide) (by decide)) (set8_cpu_pc x _ s)

theorem aluA_ending (i : Instr) (op : AluOp) (x : Operand8) (s : State) : Ending i s (aluA op x s) := by
  refine .keepsPc (operand8Cycles_stepCost x) ?_
  split <;> rfl

/-- Every instruction ends so (R286, R293). -/
theorem exec_ending (i : Instr) (s : State) : Ending i s (exec i s) := by
  induction i using instr_families
  case alu op x => exact exec_alu op x s ▸ aluA_ending _ op x s
  case incLoc x =>
    exact exec_incLoc x s ▸ .keepsPc (locCycles_stepCost x (by decide) (by decide)) (set8_cpu_pc x _ s)
  case decLoc x =>
    exact exec_decLoc x s ▸ .keepsPc (locCycles_stepCost x (by decide) (by decide)) (set8_cpu_pc x _ s)
  case addHl p => exact exec_addHl p s ▸ .keepsPc (by decide) rfl
  case incPair p => exact exec_incPair p s ▸ .keepsPc (by decide) (setPair_cpu_pc s p _)
  case decPair p => exact exec_decPair p s ▸ .keepsPc (by decide) (setPair_cpu_pc s p _)
  case rot op x => exact exec_rot op x s ▸ rotAt_ending _ op x s
  case bit n x => exact exec_bit n x s ▸ bitAt_ending _ n x s
  case res n x => exact exec_res n x s ▸ resAt_ending _ n x s
  case set n x => exact exec_set n x s ▸ setAt_ending _ n x s
  case ldRegReg r r' => exact exec_ldRegReg r r' s ▸ .keepsPc (by decide) (setReg_cpu_pc s r _)
  case ldRegD8 r v => exact exec_ldRegD8 r v s ▸ .keepsPc (by decide) (setReg_cpu_pc s r _)
  case ldRegMhl r => exact exec_ldRegMhl r s ▸ .keepsPc (by decide) (setReg_cpu_pc s r _)
  case ldMhlReg r => exact exec_ldMhlReg r s ▸ .keepsPc (by decide) (by rw [memWrite_cpu])
  case ldPairD16 p v => exact exec_ldPairD16 p v s ▸ .keepsPc (by decide) (setPair_cpu_pc s p _)
  case jrCond cc e => exact exec_jrCond cc e s ▸ .transferIf cc (by decide) (by decide) (isTransfer_jrCond cc e)
  case jpCond cc a => exact exec_jpCond cc a s ▸ .transferIf cc (by decide) (by decide) (isTransfer_jpCond cc a)
  case callCond cc a => exact exec_callCond cc a s ▸ .transferIf cc (by decide) (by decide) (isTransfer_callCond cc a)
  case retCond cc => exact exec_retCond cc s ▸ .transferIf cc (by decide) (by decide) (isTransfer_retCond cc)
  case rst y => exact exec_rst y s ▸ .transfer (by decide) (isTransfer_rst y)
  case push p => exact exec_push p s ▸ .keepsPc (by decide) (by rw [push16_cpu])
  case pop p => exact exec_pop p s ▸ .keepsPc (by decide) (setPair2_cpu_pc _ p _)
  case undefinedOp hm => exact exec_undefined hm s ▸ .keepsPc (by decide) rfl
  case prefix_cb' cb =>
    obtain ⟨op, x, e⟩ | ⟨n, x, e⟩ | ⟨n, x, e⟩ | ⟨n, x, e⟩ := exec_prefix_cb_cases cb s
    · exact e ▸ rotAt_ending _ op x s
    · exact e ▸ bitAt_ending _ n x s
    · exact e ▸ resAt_ending _ n x s
    · exact e ▸ setAt_ending _ n x s
  case halt' =>
    refine .keepsPc (n := 4) (by decide) ?_
    split <;> rfl
  case jp_a16' | jp_hl' | jr_s8' | call_a16' | ret' | reti' => exact .transfer (by decide) rfl
  case ld_mbc_a' | ld_mde_a' | ld_mhl_d8' | ldh_ma8_a' | ld_mc_a' | ld_ma16_a' | ld_ma16_sp' | ld_mhli_a' | ld_mhld_a' =>
    exact .keepsPc (by decide) (by simp)
  case nop' | stop' | di' | ei' | ld_sp_hl' | ld_a_mbc' | ld_a_mde' | ldh_a_ma8' | ld_a_mc' | ld_a_ma16' | ld_a_mhli' |
      ld_a_mhld' | rlca' | rrca' | rla' | rra' | daa' | cpl' | scf' | ccf' | add_sp_s8' | ld_hl_sp_s8' =>
    exact .keepsPc (by decide) rfl

/-! The CPU step's count. -/

theorem promoteEi_cycles (latch : Bool) (t : State) : (promoteEi latch t).cycles = t.cycles := by
  unfold promoteEi
  split <;> rfl

theorem promoteEi_pc (latch : Bool) (t : State) : (promoteEi latch t).cpu.pc = t.cpu.pc := by
  unfold promoteEi
  split <;> rfl

theorem executeOne_stepCost {s t : State} (h : executeOne s = .next t) : StepCost t.cycles := by
  obtain ⟨u, hu, rfl⟩ := executeOne_next h
  rw [promoteEi_cycles]
  exact (hu ▸ exec_ending (fetchInstr s) (instrFetched s)).cost

/-- Settles O34: an idle step costs 4, a dispatch 20, an instruction what `exec_ending` says. -/
theorem cyclesAreMultiplesOfFour : Obligations.CyclesAreMultiplesOfFour := by
  intro s t h
  obtain rfl | rfl | hexec := cpuStep_next h
  · exact (by decide : StepCost 4)
  · exact (by decide : StepCost 20)
  · exact executeOne_stepCost hexec

/-! The conditional transfers (44_control_stack.md R244, R247, R249, R251). -/

/-- The four forms with condition `cc`. -/
inductive ConditionalTransfer (cc : Cond) : Instr → Prop
  | jr (e : Byte) : ConditionalTransfer cc (.jrCond cc e)
  | jp (a : Word) : ConditionalTransfer cc (.jpCond cc a)
  | call (a : Word) : ConditionalTransfer cc (.callCond cc a)
  | ret : ConditionalTransfer cc (.retCond cc)

theorem conditionalTransfer_of_conditionOf {i : Instr} {cc : Cond} (h : conditionOf i = some cc) :
    ConditionalTransfer cc i := by
  cases i
  case jp_nz_a16 a | jp_z_a16 a | jp_nc_a16 a | jp_c_a16 a =>
    obtain rfl := Option.some.inj h
    exact .jp a
  case jr_nz_s8 e | jr_z_s8 e | jr_nc_s8 e | jr_c_s8 e =>
    obtain rfl := Option.some.inj h
    exact .jr e
  case call_nz_a16 a | call_z_a16 a | call_nc_a16 a | call_c_a16 a =>
    obtain rfl := Option.some.inj h
    exact .call a
  case ret_nz | ret_z | ret_nc | ret_c =>
    obtain rfl := Option.some.inj h
    exact .ret
  all_goals cases h

/-- The row of R430 for each, and that the step has the taken cost where the condition holds; where it does not, nothing
but the cost changes. -/
theorem ConditionalTransfer.exec_eq {cc : Cond} {i : Instr} (h : ConditionalTransfer cc i) (s : State) :
    ∃ costs u, branchCosts i = some costs ∧ u.cycles = costs.1
      ∧ exec i s = .next (if condHolds cc s then u else s.jumped s.cpu.pc costs.2) := by
  cases h with
  | jr e => exact ⟨(12, 8), _, by cases cc <;> rfl, rfl, by rw [exec_jrCond, jumpRelIf_eq]⟩
  | jp a => exact ⟨(16, 12), _, by cases cc <;> rfl, rfl, by rw [exec_jpCond, jumpIf_eq]⟩
  | call a => exact ⟨(24, 12), _, by cases cc <;> rfl, rfl, by rw [exec_callCond, callIf_eq]⟩
  | ret => exact ⟨(20, 8), _, by cases cc <;> rfl, rfl, by rw [exec_retCond, returnIf_eq]⟩

/-! The laws. -/

theorem condHolds_of_flags {s t : State} (cc : Cond) (hf : t.cpu.f = s.cpu.f) : condHolds cc t = condHolds cc s := by
  simp only [condHolds, zeroIn, carryIn, hf]

theorem instrFetched_cpu_f (s : State) : (instrFetched s).cpu.f = s.cpu.f := by
  unfold instrFetched opcodeFetched
  split <;> rfl

theorem instrLength_pos (i : Instr) : 0 < i.length := by
  unfold Instr.length
  cases i.format <;> decide

/-- PC past the instruction's bytes, the opcode's counted only where its fetch moved PC (R291). -/
theorem instrFetched_pc (s : State) : (instrFetched s).cpu.pc = s.cpu.pc + BitVec.ofNat 16
    ((fetchInstr s).length - if s.haltBug = true ∧ s.cpu.haltBugLatch = true then 1 else 0) := by
  have hlen := instrLength_pos (fetchInstr s)
  change (opcodeFetched s).cpu.pc + BitVec.ofNat 16 ((fetchInstr s).length - 1) = _
  rw [opcodeFetched_pc]
  split
  · rfl
  · rw [BitVec.add_assoc, ← BitVec.ofNat_add, Nat.add_sub_cancel' hlen, Nat.sub_zero]

/-- Without a transfer, or with one whose condition fails, the meaning keeps PC. -/
theorem exec_keepsPc {i : Instr} {s t : State} (h : exec i s = .next t)
    (hi : isTransfer i = false ∨ ∃ cc, conditionOf i = some cc ∧ condHolds cc s = false) : t.cpu.pc = s.cpu.pc := by
  obtain hi | ⟨cc, hcc, hfails⟩ := hi
  · exact (h ▸ exec_ending i s).pc hi
  · obtain ⟨costs, u, -, -, hexec⟩ := (conditionalTransfer_of_conditionOf hcc).exec_eq s
    rw [hexec, hfails] at h
    obtain rfl := Host.Outcome.next.inj h
    rfl

/-- A conditional transfer costs its taken value exactly when its condition holds (R430). -/
theorem exec_branchCost {i : Instr} {s t : State} {cc : Cond} {costs : Nat × Nat} (h : exec i s = .next t)
    (hcc : conditionOf i = some cc) (hcosts : branchCosts i = some costs) :
    t.cycles = if condHolds cc s then costs.1 else costs.2 := by
  obtain ⟨costs', u, hrow, hu, hexec⟩ := (conditionalTransfer_of_conditionOf hcc).exec_eq s
  obtain rfl := Option.some.inj (hcosts.symm.trans hrow)
  obtain rfl := Host.Outcome.next.inj (hexec.symm.trans h)
  split
  · exact hu
  · rfl

/-- Settles O33: the step runs the fetched instruction with PC past it and the flags as before, and the promotion of the
EI latch changes neither PC nor the count. -/
theorem pcAndBranchCostLaws : Obligations.PcAndBranchCostLaws := by
  intro s hexecutes
  have hcond : ∀ cc, condHolds cc (instrFetched (s.setHalted false)) = condHolds cc s := fun cc =>
    condHolds_of_flags cc (instrFetched_cpu_f (s.setHalted false))
  rw [cpuStep_of_executes hexecutes, ← fetchInstr_setHalted s false]
  refine ⟨fun t h hi => ?pc, fun t cc costs h hcc hcosts => ?cost⟩
  all_goals
    obtain ⟨u, hu, rfl⟩ := executeOne_next h
  case pc =>
    simp only [← hcond] at hi
    rw [promoteEi_pc, exec_keepsPc hu hi]
    exact instrFetched_pc (s.setHalted false)
  case cost => rw [promoteEi_cycles, exec_branchCost hu hcc hcosts, hcond]

end Sys2Proof.Machine
end

section
/-! SUPPORT. The interrupt check and the three outcomes of a CPU step (49_machine_step.md R280 to R283), and the machine
step that they make with the host's events before and the devices' ticks after (R284, R287, R289). -/

namespace Sys2Proof.Machine

/-! The pending sources. -/

/-- A source is pending where IE and IF both have its bit (R281). -/
theorem pend_getLsbD (s : State) {n : Nat} (hn : n < 5) :
    s.pend.getLsbD n = (s.intr.ie.getLsbD n && s.intr.flags.getLsbD n) := by
  simp [State.pend, hn]

theorem picks_iff (s : State) (i : Nat) :
    picks s i ↔ i < 5 ∧ s.pend.getLsbD i = true ∧ ∀ j, j < i → s.pend.getLsbD j = false := by
  constructor
  · rintro ⟨hi, hie, hif, hlow⟩
    refine ⟨hi, by simp [pend_getLsbD s hi, hie, hif], fun j hj => ?_⟩
    have := hlow j hj
    rw [pend_getLsbD s (hj.trans hi)]
    simpa using this
  · rintro ⟨hi, hbit, hlow⟩
    rw [pend_getLsbD s hi, Bool.and_eq_true] at hbit
    refine ⟨hi, hbit.1, hbit.2, fun j hj => ?_⟩
    have := hlow j hj
    rw [pend_getLsbD s (hj.trans hi)] at this
    simpa using this

/-- The source that `highestPriority` answers is the lowest set bit (R282, 60_exceptions.md R355). -/
theorem highestPriority_lowest : ∀ pend : BitVec 5, pend ≠ 0#5 →
    pend.getLsbD (highestPriority pend).bit = true ∧ ∀ j, j < (highestPriority pend).bit → pend.getLsbD j = false := by
  decide +kernel

theorem Source.bit_lt (i : Source) : i.bit < 5 := by cases i <;> decide

theorem picks_highestPriority {s : State} (h : s.pend ≠ 0#5) : picks s (highestPriority s.pend).bit :=
  (picks_iff s _).2 ⟨Source.bit_lt _, highestPriority_lowest s.pend h⟩

/-- The picked source is unique, so it is the one dispatched. -/
theorem highestPriority_bit_of_picks {s : State} {i : Nat} (h : picks s i) :
    s.pend ≠ 0#5 ∧ (highestPriority s.pend).bit = i := by
  obtain ⟨-, hbit, hlow⟩ := (picks_iff s i).1 h
  have hpend : s.pend ≠ 0#5 := fun h0 => by simp [h0] at hbit
  obtain ⟨hbit', hlow'⟩ := highestPriority_lowest s.pend hpend
  refine ⟨hpend, Nat.le_antisymm (Nat.le_of_not_lt fun hlt => ?_) (Nat.le_of_not_lt fun hlt => ?_)⟩
  · simp [hlow' i hlt] at hbit
  · simp [hlow _ hlt] at hbit'

/-! The three outcomes. -/

theorem cpuStep_of_idle {s : State} (hhalted : s.cpu.halted = true) (hpend : s.pend = 0#5) :
    cpuStep s = .next { s with cycles := 4 } := by
  simp only [cpuStep, hhalted, hpend, decide_true, Bool.and_self, if_true]
  rfl

/-- The interrupt entry as one state (R282, 60_exceptions.md R354). -/
theorem takeInterrupt_eq_dispatched (i : Source) (s : State) :
    takeInterrupt i (s.setHalted false) = s.dispatched i.bit :=
  push16_setPc_spend _ s.cpu.pc _ 20

theorem cpuStep_of_picks {s : State} {i : Nat} (hime : s.cpu.ime = true) (hi : picks s i) :
    cpuStep s = .next (s.dispatched i) := by
  obtain ⟨hpend, rfl⟩ := highestPriority_bit_of_picks hi
  rw [← takeInterrupt_eq_dispatched]
  simp [cpuStep, hpend, hime]

/-- Every state executes, idles or dispatches (R280). -/
theorem cpuStep_outcomes (s : State) : executes s = true ∨ (s.cpu.halted = true ∧ s.pend = 0#5)
    ∨ (s.cpu.ime = true ∧ ∃ i, picks s i) := by
  by_cases hpend : s.pend = 0#5
  · cases hhalted : s.cpu.halted
    · exact .inl (by simp [executes, hpend, hhalted])
    · exact .inr (.inl ⟨rfl, hpend⟩)
  · cases hime : s.cpu.ime
    · exact .inl (by simp [executes, hpend, hime])
    · exact .inr (.inr ⟨rfl, _, picks_highestPriority hpend⟩)

/-- Settles O47: the hypotheses are those of a picked source. -/
theorem interruptDispatch : Obligations.InterruptDispatch := by
  intro s i hime hi hie hif hlow
  exact cpuStep_of_picks hime ⟨hi, hie, hif, hlow⟩

/-! The fetch and the execution. -/

/-- The fetch of the opcode: PC moves past it, or, with HALT_BUG and the latch set, the latch is cleared and PC stays
(R291). -/
theorem opcodeFetched_plain {s : State} (h : ¬(s.haltBug = true ∧ s.cpu.haltBugLatch = true)) :
    opcodeFetched s = s.setPc (s.cpu.pc + 1#16) := by
  rw [← Bool.and_eq_true] at h
  rw [opcodeFetched, if_neg h]

theorem opcodeFetched_haltBug {s : State} (h : s.haltBug = true ∧ s.cpu.haltBugLatch = true) :
    opcodeFetched s = s.setHaltBugLatch false := by
  rw [← Bool.and_eq_true] at h
  rw [opcodeFetched, if_pos h]

theorem opcodeFetched_eq (s : State) : opcodeFetched s = { s with cpu := { s.cpu with
    pc := (opcodeFetched s).cpu.pc, haltBugLatch := (opcodeFetched s).cpu.haltBugLatch } } := by
  unfold opcodeFetched
  split <;> rfl

/-- The state that the body of an instruction starts from: PC past its bytes, one less after a HALT-bug fetch (R291). -/
theorem instrFetched_plain {s : State} (h : ¬(s.haltBug = true ∧ s.cpu.haltBugLatch = true)) :
    instrFetched s = s.setPc (s.cpu.pc + BitVec.ofNat 16 (fetchInstr s).length) := by
  have hpc := instrFetched_pc s
  rw [if_neg h, Nat.sub_zero] at hpc
  rw [← hpc, instrFetched, opcodeFetched_plain h]
  rfl

theorem instrFetched_haltBug {s : State} (h : s.haltBug = true ∧ s.cpu.haltBugLatch = true) :
    instrFetched s = (s.setHaltBugLatch false).setPc (s.cpu.pc + BitVec.ofNat 16 ((fetchInstr s).length - 1)) := by
  rw [instrFetched, opcodeFetched_haltBug h]
  rfl

/-- What the decoder answers on three bytes is what it reads at their head. -/
theorem decodeAt_of_decode {b0 b1 b2 : Byte} {i : Instr} {rest : List Byte} (h : decode [b0, b1, b2] = .ok (i, rest)) :
    decodeAt b0 b1 b2 = i := by
  simp only [decode] at h
  split at h
  · cases h
  · cases h
    rfl

theorem fetchInstr_of_decode {s : State} {i : Instr} {rest : List Byte}
    (h : decode [memRead s s.cpu.pc, memRead s (opcodeFetched s).cpu.pc, memRead s ((opcodeFetched s).cpu.pc + 1#16)]
      = .ok (i, rest)) : fetchInstr s = i :=
  decodeAt_of_decode h

/-- The promotion of the EI latch, written out (R283). -/
theorem promoteEi_eq (latch : Bool) (t : State) : promoteEi latch t =
    if latch = true ∧ t.cpu.imePending = true then { t with cpu := { t.cpu with ime := true, imePending := false } }
    else t := by
  simp only [promoteEi, Bool.and_eq_true]
  rfl

theorem executeOne_eq (s : State) : ∃ t, exec (fetchInstr s) (instrFetched s) = .next t
    ∧ executeOne s = .next (if s.cpu.imePending = true ∧ t.cpu.imePending = true then
        { t with cpu := { t.cpu with ime := true, imePending := false } } else t) := by
  obtain ⟨t, ht, -⟩ := exec_stores (fetchInstr s) (instrFetched s)
  exact ⟨t, ht, by rw [executeOne_of_exec ht, promoteEi_eq]⟩

/-- Settles O46: the outcomes by the interrupt check, the fetch by its two cases, the execution as `executeOne_eq` says. -/
theorem cpuStepOutcomes : Obligations.CpuStepOutcomes := by
  intro s
  refine ⟨cpuStep_of_idle, fun _ => cpuStep_of_picks, cpuStep_of_executes, cpuStep_outcomes s, fun hbug => ?_,
    fun hbug => ?_, opcodeFetched_eq s, fun hbug => ?_, fun _ => pend_getLsbD s, fun _ _ => fetchInstr_of_decode,
    executeOne_eq s⟩
  · rw [opcodeFetched_haltBug hbug]
    exact ⟨rfl, rfl⟩
  · rw [opcodeFetched_plain hbug, setPc_cpu_pc]
  · rw [opcodeFetched_plain hbug, setPc_cpu_haltBugLatch]

/-! The machine step. -/

/-- The devices' ticks, written out: the timer's cycles, then the PPU's dots, then the step index. -/
theorem tickDevices_eq_iterate (t : State) : tickDevices t =
    { ppuDot^[t.cycles] (timerCycle^[t.cycles] t) with stepIndex := t.stepIndex + 1 } := by
  obtain ⟨timer, intr, ppu, h⟩ := tickDevices_eq t
  have hidx : (tickDevices t).stepIndex = t.stepIndex + 1 := by rw [h]
  rw [← hidx]
  rfl

theorem step_of_cpuStep {s t : State} (h : cpuStep (delivered s) = .next t) : step s = .next
    { ppuDot^[t.cycles] (timerCycle^[t.cycles] t) with stepIndex := t.stepIndex + 1 } := by
  rw [step, machineStep, h, ← tickDevices_eq_iterate]

/-- With no event left, or the first not due, nothing is delivered. -/
theorem delivered_of_nil {s : State} (h : s.inputs = []) : delivered s = s := by
  rw [delivered, h, deliverFrom, ← h]

theorem delivered_of_notDue {s : State} {e : HostEvent} {rest : List HostEvent} (h : s.inputs = e :: rest)
    (hdue : s.stepIndex < e.before) : delivered s = s := by
  rw [delivered, h, deliverFrom, if_neg (by omega), ← h]

/-- The list of events still to come is what delivery leaves; no event looks at it. -/
theorem hostAct_setInputs (e : HostAction) (s : State) (is : List HostEvent) :
    hostAct e { s with inputs := is } = { hostAct e s with inputs := is } := by
  cases e with
  | setButtons b =>
    simp only [hostAct, setButtons, joypadUpdate]
    split <;> rfl
  | takeFrame => rfl

theorem deliverFrom_setInputs (es is : List HostEvent) (s : State) :
    deliverFrom es { s with inputs := is } = deliverFrom es s := by
  induction es generalizing s with
  | nil => rfl
  | cons e es ih =>
    simp only [deliverFrom, hostAct_setInputs, ih]

/-- The first event, when due, is delivered first (R289). -/
theorem delivered_of_due {s : State} {e : HostEvent} {rest : List HostEvent} (h : s.inputs = e :: rest)
    (hdue : e.before ≤ s.stepIndex) : delivered s = delivered { hostAct e.action s with inputs := rest } := by
  rw [delivered, h, deliverFrom, if_pos hdue]
  exact (deliverFrom_setInputs rest rest _).symm

/-- A machine step whose CPU step executes the instruction fetched. -/
theorem step_of_executes {s : State} {i : Instr} (h : executes (delivered s) = true)
    (hi : fetchInstr (delivered s) = i) : ∃ t, exec i (instrFetched ((delivered s).setHalted false)) = .next t
      ∧ step s = .next (tickDevices (promoteEi (delivered s).cpu.imePending t)) := by
  rw [← fetchInstr_setHalted _ false] at hi
  obtain ⟨t, ht, -⟩ := exec_stores i (instrFetched ((delivered s).setHalted false))
  refine ⟨t, ht, ?_⟩
  rw [step, machineStep, cpuStep_of_executes h, executeOne_of_exec (hi ▸ ht)]
  rfl

/-- Settles O45: from the delivered state, the outcome of the CPU step, then the ticks. -/
theorem stepRunsDecodedInstruction : Obligations.StepRunsDecodedInstruction := by
  intro s d ticked promoted
  refine ⟨fun i rest hbug hexecutes hdecode => ?plainFetch, fun i rest hbug hlatch hexecutes hdecode => ?haltBugFetch,
    fun hhalted hpend => step_of_cpuStep (cpuStep_of_idle hhalted hpend),
    fun i hime hi => step_of_cpuStep (cpuStep_of_picks hime hi),
    delivered_of_nil, fun _ _ => delivered_of_notDue, fun _ _ _ => delivered_of_due, fun _ _ => delivered_of_due⟩
  case plainFetch =>
    have hnext : d.cpu.pc + 2#16 = d.cpu.pc + 1#16 + 1#16 := by bv_omega
    have hi : fetchInstr d = i := fetchInstr_of_decode (by
      rw [opcodeFetched_plain hbug, setPc_cpu_pc, ← hnext, hdecode])
    obtain ⟨t, ht, hstep⟩ := step_of_executes hexecutes hi
    rw [instrFetched_plain (s := (delivered s).setHalted false) hbug, fetchInstr_setHalted, hi] at ht
    exact ⟨t, ht, by rw [hstep, tickDevices_eq_iterate, promoteEi_eq]⟩
  case haltBugFetch =>
    have hi : fetchInstr d = i := fetchInstr_of_decode (by
      rw [opcodeFetched_haltBug ⟨hbug, hlatch⟩, setHaltBugLatch_cpu_pc, hdecode])
    obtain ⟨t, ht, hstep⟩ := step_of_executes hexecutes hi
    rw [instrFetched_haltBug (s := (delivered s).setHalted false) ⟨hbug, hlatch⟩, fetchInstr_setHalted, hi] at ht
    exact ⟨t, ht, by rw [hstep, tickDevices_eq_iterate, promoteEi_eq]⟩

end Sys2Proof.Machine
end

section
/-! SUPPORT. The stack laws (49_machine_step.md R293, 44_control_stack.md R250): the word that a push leaves on top of the
stack is the word pushed, where both bytes land in plain memory. -/

namespace Sys2Proof.Machine

/-- The two bytes of a push have different cells: the echo of an address is 0x2000 away from it (20_memory.md R66). -/
theorem cellOf_stackSlots_ne (sp : Word) : cellOf (sp - 1#16) ≠ cellOf (sp - 2#16) := by
  have hnext : sp - 1#16 = sp - 2#16 + 1#16 := by bv_omega
  have hnum := BitVec.toNat_add (sp - 2#16) 1#16
  rw [← hnext, BitVec.toNat_ofNat] at hnum
  have := (sp - 2#16).isLt
  unfold cellOf
  split_ifs <;> omega

section
variable {s : State} (hwf : s.memoryWf = true) (hplain : ∀ b ∈ stackSlots s, plainCell s b = true)
include hwf hplain

/-- After the two writes of a call or a push the slots hold the word's bytes. -/
theorem memRead_called (v pc : Word) (n : Nat) :
    memRead (s.called v pc n) (s.cpu.sp - 1#16) = hiByte v ∧ memRead (s.called v pc n) (s.cpu.sp - 2#16) = loByte v := by
  obtain ⟨hhi, hlo⟩ : plainCell s (s.cpu.sp - 1#16) = true ∧ plainCell s (s.cpu.sp - 2#16) = true := by
    simpa [stackSlots] using hplain
  rw [State.called, ← hiByte_eq_ofNat, ← loByte_eq_ofNat]
  have hlo' : plainCell (memWrite s (s.cpu.sp - 1#16) (hiByte v)) (s.cpu.sp - 2#16) = true := by
    rw [plainCell_memWrite _ hhi, hlo]
  constructor
  · calc memRead (memWrite (memWrite s (s.cpu.sp - 1#16) (hiByte v)) (s.cpu.sp - 2#16) (loByte v)) (s.cpu.sp - 1#16)
      _ = memRead (memWrite s (s.cpu.sp - 1#16) (hiByte v)) (s.cpu.sp - 1#16) :=
        memRead_memWrite_otherCell _ hlo' (cellOf_stackSlots_ne s.cpu.sp)
      _ = hiByte v := memRead_memWrite_sameCell _ hwf hhi
  · exact memRead_memWrite_sameCell _ (memWrite_memoryWf _ _ hwf) hlo'

/-- The word pushed is the word on top of the stack. -/
theorem stackTop_called (v pc : Word) (n : Nat) : stackTop (s.called v pc n) = v := by
  obtain ⟨hhi, hlo⟩ := memRead_called hwf hplain v pc n
  have hsp : (s.called v pc n).cpu.sp = s.cpu.sp - 2#16 := rfl
  have hnext : s.cpu.sp - 2#16 + 1#16 = s.cpu.sp - 1#16 := by bv_omega
  rw [← popValue_eq_stackTop, popValue, hsp, hnext, hhi, hlo, joinBytes_hi_lo]

end

/-- A pair reads the word written to it, but for F's low nibble (10_state.md R21, R22). -/
theorem pair2_setPair2_pair2 (s t : State) (p : Rp2) : (t.setPair2 p (s.pair2 p)).pair2 p = s.pair2 p := by
  cases p with
  | af => simp [State.pair2, State.setPair2, State.setReg, State.setF, maskFlags_of_low]
  | _ => exact joinBytes_hi_lo _

/-- Settles O27: what comes back is the word on top of the stack, which is the word pushed. -/
theorem stackDiscipline : Obligations.StackDiscipline := by
  intro s p a hwf hplain
  have hsp : s.cpu.sp - 2#16 + 2#16 = s.cpu.sp := by bv_omega
  constructor
  · refine ⟨s.called (s.pair2 p) s.cpu.pc 16, _, (pushPopResult s p).1, (pushPopResult _ p).2.1, ?_, ?_, ?_⟩
    · rw [stackTop_called hwf hplain]
      exact pair2_setPair2_pair2 s _ p
    · exact (setPair2_cpu_sp _ p _).trans hsp
    · exact setPair2_cpu_pc _ p _
  · refine ⟨s.called s.cpu.pc a 24, _, (callRstResult s .nz a .i0).1, rfl, (returnResult _ .nz).1, ?_, hsp⟩
    exact stackTop_called hwf hplain _ _ _

end Sys2Proof.Machine
end

section
/-! SUPPORT. The states that launches start in (10_state.md R50, 70_reset_and_hazards.md R400 to R402): the images of a
launch byte for byte, what their canonical form is, and the invariant of a start. -/

namespace Sys2Proof.Machine

/-! Images. -/

/-- The canonical form from an index on, spelled out. -/
theorem Memory.wfFrom_iff (size lo : Nat) (m : Memory) : Memory.wfFrom size lo m = true ↔
    m.Pairwise (fun c d => c.1 < d.1) ∧ ∀ c ∈ m, lo ≤ c.1 ∧ c.1 < size ∧ c.2 ≠ 0x00#8 := by
  induction m generalizing lo with
  | nil => simp [Memory.wfFrom]
  | cons c rest ih =>
    simp only [Memory.wfFrom, Bool.and_eq_true, decide_eq_true_eq, ih, List.pairwise_cons, List.forall_mem_cons]
    constructor
    · rintro ⟨⟨⟨hlo, hsize⟩, hne⟩, hrising, hrest⟩
      refine ⟨⟨fun d hd => (hrest d hd).1, hrising⟩, ⟨hlo, hsize, hne⟩, fun d hd => ?_⟩
      obtain ⟨hnext, hd'⟩ := hrest d hd
      exact ⟨by omega, hd'⟩
    · rintro ⟨⟨hfirst, hrising⟩, ⟨hlo, hsize, hne⟩, hrest⟩
      exact ⟨⟨⟨hlo, hsize⟩, hne⟩, hrising, fun d hd => ⟨hfirst d hd, (hrest d hd).2⟩⟩

theorem Memory.wf_iff (size : Nat) (m : Memory) : Memory.wf size m = true ↔
    m.Pairwise (fun c d => c.1 < d.1) ∧ ∀ c ∈ m, c.1 < size ∧ c.2 ≠ 0x00#8 := by
  rw [Memory.wf, Memory.wfFrom_iff]
  simp only [Nat.zero_le, true_and]

/-- Bytes put from `k` on change nothing below `k`. -/
theorem Memory.read_writeAll_below {j k : Nat} (m : Memory) (vs : List Byte) (hj : j < k) :
    Memory.read (Memory.writeAll m k vs) j = Memory.read m j := by
  induction vs generalizing m k with
  | nil => rfl
  | cons v vs ih => rw [Memory.writeAll, ih _ (by omega), Memory.read_write_other m v (by omega)]

/-- Bytes put from `k` on are read there. -/
theorem Memory.read_writeAll {size k : Nat} {m : Memory} (hwf : Memory.wf size m = true) (vs : List Byte)
    (hk : k + vs.length ≤ size) {i : Nat} (hi : i < vs.length) :
    Memory.read (Memory.writeAll m k vs) (k + i) = vs[i] := by
  induction vs generalizing m k i with
  | nil => cases hi
  | cons v vs ih =>
    rw [List.length_cons] at hk hi
    cases i with
    | zero => exact (Memory.read_writeAll_below _ vs (Nat.lt_succ_self k)).trans (Memory.read_write_same hwf k v)
    | succ i =>
      rw [← Nat.add_assoc, Nat.add_right_comm]
      exact ih (Memory.wf_write v hwf (by omega)) (by omega) (by omega)

/-- An image in memory: in canonical form inside its size, and read byte for byte. -/
theorem image_wf {size : Nat} {image : List Byte} (h : image.length = size) :
    Memory.wf size (Memory.writeAll [] 0 image) = true :=
  Memory.wf_writeAll image rfl (by omega)

theorem image_read (image : List Byte) {i : Nat} (hi : i < image.length) :
    Memory.read (Memory.writeAll [] 0 image) i = image[i] := by
  have h := Memory.read_writeAll (size := image.length) (m := []) (k := 0) rfl image (by omega) hi
  rwa [Nat.zero_add] at h

/-- What a launch made of an image is (20_memory.md R84). -/
theorem launchOfImage_eq {image : List Byte} {boot : Option (List Byte)} {haltBug : Bool} {l : Launch}
    (h : Launch.ofImage image boot haltBug = some l) :
    image.length = romSize l.banks ∧ (∀ b, boot = some b → b.length = Config.bootSize) ∧ ∃ cartType banks,
      l = { Launch.default with
        cartType := cartType, banks := banks, rom := Memory.writeAll [] 0 image
        boot := boot.map (Memory.writeAll [] 0), haltBug := haltBug } := by
  unfold Launch.ofImage at h
  dsimp only at h
  split at h
  · next hvalid =>
    obtain ⟨hlen, -, -, hboot⟩ := hvalid
    split at h
    · obtain rfl := Option.some.inj h
      refine ⟨hlen, ?_, _, _, rfl⟩
      rintro b rfl
      simpa using hboot
    · cases h
  · cases h

theorem launchOfImage_imagesWf {image : List Byte} {boot : Option (List Byte)} {haltBug : Bool} {l : Launch}
    (h : Launch.ofImage image boot haltBug = some l) : l.imagesWf = true := by
  obtain ⟨hlen, hboot, cartType, banks, rfl⟩ := launchOfImage_eq h
  have hbootWf : (boot.map (Memory.writeAll [] 0)).all (Memory.wf Config.bootSize) = true := by
    cases boot with
    | none => rfl
    | some b => exact image_wf (hboot b rfl)
  simp only [Launch.imagesWf, image_wf hlen, hbootWf]
  rfl

/-! The start. -/

/-- The PPU of either form is at position 0, in mode 2 with the LCD on and in mode 0 with it off. -/
theorem ppuInvariant_ofLaunch (l : Launch) (lcdc bgp : Byte) {mode : PpuMode}
    (hon : lcdc.getLsbD 7 = true → mode = .oamScan) (hoff : lcdc.getLsbD 7 = false → mode = .hblank) :
    PpuInvariant (Ppu.ofLaunch l lcdc bgp mode) where
  ly := Nat.zero_lt_succ _
  lx := Nat.zero_lt_succ _
  modeOn := hon
  lcdOff h := ⟨rfl, rfl, hoff h⟩
  windowLine := Nat.zero_le _
  sprites := Nat.zero_le _

theorem cartInvariant_ofLaunch (l : Launch) : CartInvariant (Cartridge.ofLaunch l) :=
  ⟨(by decide : 1#7 ≠ 0#7), .inl (Nat.zero_le _), rfl⟩

theorem start_invariant {l : Launch} (h : l.imagesWf = true) : Invariant (State.start l) := by
  simp only [Launch.imagesWf, Bool.and_eq_true, and_assoc] at h
  obtain ⟨hvram, hoam, hwram, hhram, hcram, hrom, hboot⟩ := h
  rw [State.start, invariant_iff, memoryWf_iff]
  split
  · next boot hb =>
    rw [hb] at hboot
    exact ⟨ppuInvariant_ofLaunch l _ _ (by decide) (by decide), cartInvariant_ofLaunch l,
      ⟨hvram, hoam, hwram, hhram, hcram, hrom, hboot⟩, (by decide : 0x00#8 &&& 0x0F#8 = 0x00#8), fun _ => rfl⟩
  · exact ⟨ppuInvariant_ofLaunch l _ _ (by decide) (by decide), cartInvariant_ofLaunch l,
      ⟨hvram, hoam, hwram, hhram, hcram, hrom, rfl⟩, (by decide : 0xB0#8 &&& 0x0F#8 = 0x00#8), fun _ => rfl⟩

theorem start_of_boot {l : Launch} {boot : Memory} (h : l.boot = some boot) : State.start l = State.powerOn l boot := by
  rw [State.start, h]

theorem start_of_noBoot {l : Launch} (h : l.boot = none) : State.start l = State.skipBoot l := by
  rw [State.start, h]

/-- Both forms keep the launch parameters. -/
theorem start_launch (l : Launch) : (State.start l).cart = Cartridge.ofLaunch l ∧ (State.start l).haltBug = l.haltBug := by
  unfold State.start
  split <;> exact ⟨rfl, rfl⟩

/-- Settles O59: a start's invariant clause by clause from the images' canonical form, the images of a launch by the bytes
put one after the other, and reset as one launch. -/
theorem resetInvariant : Obligations.ResetInvariant := by
  refine ⟨fun l => start_invariant, fun image boot haltBug l h => ⟨launchOfImage_imagesWf h, ?image⟩,
    fun l b hb => start_of_boot hb ▸ ⟨rfl, rfl, rfl⟩, fun l hb => start_of_noBoot hb ▸ rfl, fun l => ?launch,
    Memory.wf_iff, memoryWf_iff, start_invariant rfl⟩
  case image =>
    obtain ⟨hlen, hboot, cartType, banks, rfl⟩ := launchOfImage_eq h
    refine ⟨rfl, hlen.symm, fun i => image_read image, ?_, ?_⟩
    · rintro rfl
      rfl
    · rintro b rfl
      exact ⟨_, rfl, fun i => image_read b⟩
  case launch =>
    obtain ⟨hcart, hbug⟩ := start_launch l
    rw [hcart]
    exact ⟨rfl, rfl, rfl, hbug⟩

end Sys2Proof.Machine
end

section
/-! SUPPORT. The opcode map from its bytes (30_encoding.md R118 to R122): every first byte but 0xCB has a row, so any
three bytes begin with those of an instruction. -/

namespace Sys2Proof.Machine

/-! The remaining codes of the operand tables, inverted (R114 to R116). -/

theorem rpCode_ofCode {n : Nat} (h : n < 4) : rpCode (Rp.ofCode n) = n := by
  interval_cases n <;> rfl

theorem rp2Code_ofCode {n : Nat} (h : n < 4) : rp2Code (Rp2.ofCode n) = n := by
  interval_cases n <;> rfl

theorem condCode_ofCode {n : Nat} (h : n < 4) : condCode (Cond.ofCode n) = n := by
  interval_cases n <;> rfl

theorem aluCode_ofCode {n : Nat} (h : n < 8) : aluCode (AluOp.ofCode n) = n := by
  interval_cases n <;> rfl

/-! The rows of the opcodes. -/

/-- An opcode has a row of one, two or three bytes. -/
inductive HasRow (op : Byte) : Prop where
  | one {i : Instr} (row : OneByteRow op i)
  | two {f : Byte → Instr} (row : TwoByteRow op f)
  | three {f : Word → Instr} (row : ThreeByteRow op f)

/-- A row's opcode from the number that the row's lemma gives it. -/
theorem HasRow.of_eq {m n : Nat} (row : HasRow (.ofNat 8 m)) (h : m = n) : HasRow (.ofNat 8 n) := h ▸ row

/-- A one-byte row as the decoder gives it. -/
theorem HasRow.alone {op : Byte} (hencode : encode (decodeAt op 0x00#8 0x00#8) = [op])
    (hdecode : ∀ d1 d2, decodeAt op d1 d2 = decodeAt op 0x00#8 0x00#8) : HasRow op :=
  .one ⟨hencode, hdecode⟩

/-- The slot y = z = 6 of the loads is HALT (R120). -/
theorem ldLocLoc_row (x x' : Loc8) :
    OneByteRow (.ofNat 8 (0x40 + 8 * locCode x + locCode x')) (.ldLocLoc x x') := by
  cases x with
  | reg r =>
    cases x' with
    | reg r' => exact ldRegReg_row r r'
    | mhl =>
      have row := ldRegMhl_row r
      rwa [show 0x46 + 8 * regCode r = 0x40 + 8 * regCode r + 6 by omega] at row
  | mhl =>
    cases x' with
    | reg r => exact ldMhlReg_row r
    | mhl => exact ⟨rfl, fun _ _ => rfl⟩

theorem ldLocD8_row (x : Loc8) : TwoByteRow (.ofNat 8 (0x06 + 8 * locCode x)) (.ldLocD8 x) := by
  cases x with
  | reg r => exact ldRegD8_row r
  | mhl => exact ⟨fun _ => rfl, fun _ _ => rfl⟩

/-- The columns of x = 0 (R119). -/
theorem hasRow_x0 {y z : Nat} (hy : y < 8) (hz : z < 8) : HasRow (.ofNat 8 (8 * y + z)) := by
  match z with
  | 0 =>
    match y with
    | 0 => exact .alone rfl fun _ _ => rfl
    | 1 => exact .three (f := .ld_ma16_sp) ⟨fun _ => rfl, fun _ _ => rfl⟩
    | 2 => exact .two (f := .stop) ⟨fun _ => rfl, fun _ _ => rfl⟩
    | 3 => exact .two (f := .jr_s8) ⟨fun _ => rfl, fun _ _ => rfl⟩
    | cc + 4 => exact (HasRow.two (jrCond_row (.ofCode cc))).of_eq (by rw [condCode_ofCode (by omega)]; omega)
  | 1 =>
    obtain ⟨p, rfl | rfl⟩ := y.even_or_odd'
    · exact (HasRow.three (ldPairD16_row (.ofCode p))).of_eq (by rw [rpCode_ofCode (by omega)]; omega)
    · exact (HasRow.one (addHl_row (.ofCode p))).of_eq (by rw [rpCode_ofCode (by omega)]; omega)
  | 2 => interval_cases y <;> exact .alone rfl fun _ _ => rfl
  | 3 =>
    obtain ⟨p, rfl | rfl⟩ := y.even_or_odd'
    · exact (HasRow.one (incPair_row (.ofCode p))).of_eq (by rw [rpCode_ofCode (by omega)]; omega)
    · exact (HasRow.one (decPair_row (.ofCode p))).of_eq (by rw [rpCode_ofCode (by omega)]; omega)
  | 4 => exact (HasRow.one (incLoc_row (.ofCode y))).of_eq (by rw [locCode_ofCode hy, Nat.add_comm])
  | 5 => exact (HasRow.one (decLoc_row (.ofCode y))).of_eq (by rw [locCode_ofCode hy, Nat.add_comm])
  | 6 => exact (HasRow.two (ldLocD8_row (.ofCode y))).of_eq (by rw [locCode_ofCode hy, Nat.add_comm])
  | 7 => interval_cases y <;> exact .alone rfl fun _ _ => rfl

/-- The columns of x = 3 (R122), of which one slot is 0xCB. -/
theorem hasRow_x3 {y z : Nat} (hy : y < 8) (hz : z < 8) (hcb : 8 * y + z ≠ 0x0B) :
    HasRow (.ofNat 8 (0xC0 + 8 * y + z)) := by
  match z with
  | 0 =>
    rcases Nat.lt_or_ge y 4 with hcond | hrest
    · exact (HasRow.one (retCond_row (.ofCode y))).of_eq (by rw [condCode_ofCode hcond, Nat.add_zero])
    · interval_cases y
      · exact .two (f := .ldh_ma8_a) ⟨fun _ => rfl, fun _ _ => rfl⟩
      · exact .two (f := .add_sp_s8) ⟨fun _ => rfl, fun _ _ => rfl⟩
      · exact .two (f := .ldh_a_ma8) ⟨fun _ => rfl, fun _ _ => rfl⟩
      · exact .two (f := .ld_hl_sp_s8) ⟨fun _ => rfl, fun _ _ => rfl⟩
  | 1 =>
    obtain ⟨p, rfl | rfl⟩ := y.even_or_odd'
    · exact (HasRow.one (pop_row (.ofCode p))).of_eq (by rw [rp2Code_ofCode (by omega)]; omega)
    · have hp : p < 4 := by omega
      interval_cases p <;> exact .alone rfl fun _ _ => rfl
  | 2 =>
    rcases Nat.lt_or_ge y 4 with hcond | hrest
    · exact (HasRow.three (jpCond_row (.ofCode y))).of_eq (by rw [condCode_ofCode hcond]; omega)
    · interval_cases y
      · exact .alone rfl fun _ _ => rfl
      · exact .three (f := .ld_ma16_a) ⟨fun _ => rfl, fun _ _ => rfl⟩
      · exact .alone rfl fun _ _ => rfl
      · exact .three (f := .ld_a_ma16) ⟨fun _ => rfl, fun _ _ => rfl⟩
  | 3 =>
    match y with
    | 0 => exact .three (f := .jp_a16) ⟨fun _ => rfl, fun _ _ => rfl⟩
    | 1 => exact absurd rfl hcb
    | 2 | 3 | 4 | 5 | 6 | 7 => exact .alone rfl fun _ _ => rfl
  | 4 =>
    rcases Nat.lt_or_ge y 4 with hcond | hrest
    · exact (HasRow.three (callCond_row (.ofCode y))).of_eq (by rw [condCode_ofCode hcond]; omega)
    · interval_cases y <;> exact .alone rfl fun _ _ => rfl
  | 5 =>
    obtain ⟨p, rfl | rfl⟩ := y.even_or_odd'
    · exact (HasRow.one (push_row (.ofCode p))).of_eq (by rw [rp2Code_ofCode (by omega)]; omega)
    · match p with
      | 0 => exact .three (f := .call_a16) ⟨fun _ => rfl, fun _ _ => rfl⟩
      | 1 | 2 | 3 => exact .alone rfl fun _ _ => rfl
  | 6 => exact (HasRow.two (aluImm_row (.ofCode y))).of_eq (by rw [aluCode_ofCode hy]; omega)
  | 7 => exact (HasRow.one (rst_row (.ofCode y))).of_eq (by rw [index8_toNat_ofCode hy]; omega)

/-- Every first byte but 0xCB selects an instruction of the base map (R118). -/
theorem hasRow_of_ne_cb {op : Byte} (hop : op ≠ 0xCB#8) : HasRow op := by
  have hfields := ofNat_fields op
  have hx := fieldX_lt op
  have hy := fieldY_lt op
  have hz := fieldZ_lt op
  generalize fieldX op = x, fieldY op = y, fieldZ op = z at *
  subst hfields
  match x with
  | 0 => exact (hasRow_x0 hy hz).of_eq (by omega)
  | 1 =>
    exact (HasRow.one (ldLocLoc_row (.ofCode y) (.ofCode z))).of_eq (by rw [locCode_ofCode hy, locCode_ofCode hz])
  | 2 =>
    exact (HasRow.one (aluLoc_row (.ofCode y) (.ofCode z))).of_eq (by rw [aluCode_ofCode hy, locCode_ofCode hz])
  | 3 =>
    refine hasRow_x3 hy hz fun hcb => hop ?_
    rw [show 64 * 3 + 8 * y + z = 0xCB by omega]

/-! The bytes read. -/

/-- The one constructor that is not well-formed has the bytes of a CB instruction (R265). -/
theorem wellFormed_of_encode {i : Instr} {op : Byte} {ops : List Byte} (henc : encode i = op :: ops)
    (hop : op ≠ 0xCB#8) : i.wellFormed = true := by
  unfold Instr.wellFormed Instr.isPrefix
  split
  · exact absurd (List.cons.inj henc).1.symm hop
  · rfl

/-- The CB map selects well-formed instructions only. -/
theorem cbInstr_wellFormed (sub : Byte) : (cbInstr sub).wellFormed = true := by
  revert sub
  decide +kernel

/-- An instruction of the row takes its operand from the bytes after the opcode. -/
theorem HasRow.exists_encode_eq {op : Byte} (h : HasRow op) (d1 d2 : Byte) :
    ∃ i ops tail, encode i = op :: ops ∧ ops ++ tail = [d1, d2] := by
  cases h with
  | one row => exact ⟨_, [], _, row.encode_eq, rfl⟩
  | two row => exact ⟨_, [d1], _, row.encode_eq d1, rfl⟩
  | three row =>
    refine ⟨_, [d1, d2], [], (row.encode_eq (joinBytes d2 d1)).trans ?_, rfl⟩
    rw [loByte_joinBytes, hiByte_joinBytes]

/-- Any three bytes begin with those of a well-formed instruction. -/
theorem exists_wellFormed_encode_eq (op d1 d2 : Byte) :
    ∃ i ops tail, i.wellFormed = true ∧ encode i = op :: ops ∧ ops ++ tail = [d1, d2] := by
  by_cases hop : op = 0xCB#8
  · exact ⟨cbInstr d1, [d1], [d2], cbInstr_wellFormed d1, hop ▸ (cbInstr_row d1).encode_eq, rfl⟩
  · obtain ⟨i, ops, tail, henc, htail⟩ := (hasRow_of_ne_cb hop).exists_encode_eq d1 d2
    exact ⟨i, ops, tail, wellFormed_of_encode henc hop, henc, htail⟩

/-- Settles O2: the three bytes begin with the bytes of a well-formed instruction, which the decoder gives back (O1). -/
theorem encodeDecodeRoundTrip : Obligations.EncodeDecodeRoundTrip := by
  intro op d1 d2 rest
  obtain ⟨i, ops, tail, hwf, henc, htail⟩ := exists_wellFormed_encode_eq op d1 d2
  have hbytes : encode i ++ (tail ++ rest) = op :: d1 :: d2 :: rest := by
    rw [henc, List.cons_append, ← List.append_assoc, htail]
    rfl
  have hlen : i.length = ops.length + 1 := by rw [← encode_length, henc, List.length_cons]
  have hops : ops.length + tail.length = 2 := by rw [← List.length_append, htail]; rfl
  refine ⟨i, tail ++ rest, ?_, hwf, by omega, by omega, encode_length i, hbytes⟩
  rw [← hbytes]
  exact decodeEncodeRoundTrip i _ hwf

/-- Settles O3, word by word. -/
theorem decodeWordsOfTheFamilies : Obligations.DecodeWordsOfTheFamilies := by
  and_intros <;> rfl

end Sys2Proof.Machine
end

section
/-! SUPPORT. The timer over time (60_exceptions.md R372 to R375): which timer cycles increment TIMA, what the increment
does, and how many of `n` cycles are such. -/

namespace Sys2Proof.Machine

/-! The tap bit. -/

/-- The tap bits as a list (R372). -/
theorem getD_eq_tapBit (tac : BitVec 3) : ([9, 3, 5, 7] : List Nat).getD (tac.toNat % 4) 0 = tapBit tac := by
  revert tac
  decide

theorem tapBit_mem (tac : BitVec 3) : tapBit tac ∈ [9, 3, 5, 7] := by
  revert tac
  decide

/-- The tap bit falls in the timer cycle that begins here (R373). -/
def TapFalls (t : Timer) : Prop :=
  t.divCounter.getLsbD (tapBit t.tac) = true ∧ (t.divCounter + 1#16).getLsbD (tapBit t.tac) = false

/-- T-cycles between two falls of the tap bit (R372). -/
def tapPeriod (t : Timer) : Nat := 2 ^ (tapBit t.tac + 1)

/-- The counter wraps at a multiple of every period. -/
theorem tapPeriod_dvd_wrap (t : Timer) : tapPeriod t ∣ 2 ^ 16 := by
  refine Nat.pow_dvd_pow 2 ?_
  have := tapBit_mem t.tac
  simp only [List.mem_cons, List.not_mem_nil, or_false] at this
  omega

/-- The tap bit falls exactly when the counter reaches a multiple of the period (R373). -/
theorem tapFalls_iff (t : Timer) : TapFalls t ↔ (t.divCounter.toNat + 1) % tapPeriod t = 0 := by
  have hbit := tapBit_mem t.tac
  have hc := t.divCounter.isLt
  unfold TapFalls tapPeriod
  generalize tapBit t.tac = b, t.divCounter = c at *
  simp only [List.mem_cons, List.not_mem_nil, or_false] at hbit
  simp only [BitVec.getLsbD, BitVec.toNat_add, BitVec.toNat_ofNat, Nat.testBit_eq_decide_div_mod_eq, decide_eq_true_eq,
    decide_eq_false_iff_not]
  rcases hbit with rfl | rfl | rfl | rfl <;> omega

/-- The same of a counter given as a number that has not been wrapped. -/
theorem tapFalls_iff_dvd {t : Timer} {c : Nat} (hc : t.divCounter = BitVec.ofNat 16 c) :
    TapFalls t ↔ tapPeriod t ∣ c + 1 := by
  rw [tapFalls_iff, ← Nat.dvd_iff_mod_eq_zero, hc, BitVec.toNat_ofNat, Nat.dvd_iff_mod_eq_zero, Nat.dvd_iff_mod_eq_zero,
    Nat.add_mod, Nat.mod_mod_of_dvd _ (tapPeriod_dvd_wrap t), ← Nat.add_mod]

/-! One timer cycle (R373, R374). -/

section
variable {s : State}

theorem timerCycle_of_falls (h : s.timer.tac.getLsbD 2 = true ∧ TapFalls s.timer) :
    timerCycle s = timaIncrement { s with timer := { s.timer with divCounter := s.timer.divCounter + 1#16 } } := by
  obtain ⟨henabled, hold, hnew⟩ := h
  simp [timerCycle, timerEnabled, henabled, hold, hnew]

theorem timerCycle_of_not_falls (h : ¬(s.timer.tac.getLsbD 2 = true ∧ TapFalls s.timer)) :
    timerCycle s = { s with timer := { s.timer with divCounter := s.timer.divCounter + 1#16 } } := by
  refine if_neg fun hfalls => h ?_
  simpa [TapFalls, timerEnabled, and_assoc] using hfalls

theorem timaIncrement_of_overflow (h : s.timer.tima = 0xFF#8) : timaIncrement s = { s with
    timer := { s.timer with tima := s.timer.tma }, intr := { s.intr with flags := s.intr.flags ||| 0b00100#5 } } :=
  if_pos h

theorem timaIncrement_of_ne (h : s.timer.tima ≠ 0xFF#8) :
    timaIncrement s = { s with timer := { s.timer with tima := s.timer.tima + 1#8 } } :=
  if_neg h

end

/-- Settles O50: the cycle by whether TIMA counts in it, the increment by whether it overflows. -/
theorem timaOverflowReloads : Obligations.TimaOverflowReloads := by
  intro s
  simp only [getD_eq_tapBit]
  refine ⟨?cycle, tapFalls_iff s.timer, timaIncrement_of_overflow, fun h => ⟨timaIncrement_of_ne h, ?plusOne⟩⟩
  case cycle =>
    split
    · next h => exact timerCycle_of_falls h
    · next h => exact timerCycle_of_not_falls h
  case plusOne =>
    rw [timaIncrement_of_ne h]
    bv_omega

/-! Many timer cycles (R375). -/

/-- The state `n` timer cycles on, of which `k` have incremented TIMA without an overflow. -/
def State.timerCounted (s : State) (n k : Nat) : State :=
  { s with timer := { s.timer with
      divCounter := s.timer.divCounter + BitVec.ofNat 16 n, tima := BitVec.ofNat 8 (s.timer.tima.toNat + k) } }

theorem timerCounted_zero (s : State) : s.timerCounted 0 0 = s := by
  simp [State.timerCounted]

section
variable {s : State} {n k : Nat}

theorem timerCounted_tapFalls :
    TapFalls (s.timerCounted n k).timer ↔ tapPeriod s.timer ∣ s.timer.divCounter.toNat + n + 1 :=
  tapFalls_iff_dvd (by simp [State.timerCounted, BitVec.ofNat_add])

/-- A cycle that counts. -/
theorem timerCycle_counted_of_dvd (henabled : s.timer.tac.getLsbD 2 = true)
    (hdvd : tapPeriod s.timer ∣ s.timer.divCounter.toNat + n + 1) (hk : s.timer.tima.toNat + (k + 1) ≤ 255) :
    timerCycle (s.timerCounted n k) = s.timerCounted (n + 1) (k + 1) := by
  have hfalls : TapFalls (s.timerCounted n k).timer := timerCounted_tapFalls.2 hdvd
  rw [timerCycle_of_falls (s := s.timerCounted n k) ⟨henabled, hfalls⟩, timaIncrement_of_ne]
  · simp only [State.timerCounted, BitVec.ofNat_add, BitVec.add_assoc]
  · simp only [State.timerCounted]
    bv_omega

/-- A cycle that does not. -/
theorem timerCycle_counted_of_not
    (h : ¬(s.timer.tac.getLsbD 2 = true ∧ tapPeriod s.timer ∣ s.timer.divCounter.toNat + n + 1)) :
    timerCycle (s.timerCounted n k) = s.timerCounted (n + 1) k := by
  rw [timerCycle_of_not_falls fun hfalls => h (hfalls.imp_right timerCounted_tapFalls.1)]
  simp only [State.timerCounted, BitVec.ofNat_add, BitVec.add_assoc]

end

/-- The multiples of the period that the counter passes in `n` cycles. -/
def periodsPassed (t : Timer) (n : Nat) : Nat :=
  (t.divCounter.toNat + n) / tapPeriod t - t.divCounter.toNat / tapPeriod t

theorem periodsPassed_zero (t : Timer) : periodsPassed t 0 = 0 := Nat.sub_self _

theorem periodsPassed_succ (t : Timer) (n : Nat) : periodsPassed t (n + 1)
    = periodsPassed t n + if tapPeriod t ∣ t.divCounter.toNat + n + 1 then 1 else 0 := by
  have hle : t.divCounter.toNat / tapPeriod t ≤ (t.divCounter.toNat + n) / tapPeriod t :=
    Nat.div_le_div_right (Nat.le_add_right _ n)
  rw [periodsPassed, ← Nat.add_assoc, Nat.succ_div, periodsPassed]
  omega

theorem timerTick_of_disabled {s : State} (hdisabled : s.timer.tac.getLsbD 2 = false) (n : Nat) :
    timerTick n s = s.timerCounted n 0 := by
  induction n with
  | zero => exact (timerCounted_zero s).symm
  | succ n ih =>
    rw [timerTick_succ', ih, timerCycle_counted_of_not fun h => Bool.false_ne_true (hdisabled.symm.trans h.1)]

/-- The timer counts its periods, as long as TIMA does not overflow. -/
theorem timerTick_of_enabled {s : State} (henabled : s.timer.tac.getLsbD 2 = true) {n : Nat}
    (hmax : s.timer.tima.toNat + periodsPassed s.timer n ≤ 255) :
    timerTick n s = s.timerCounted n (periodsPassed s.timer n) := by
  induction n with
  | zero => rw [periodsPassed_zero, timerCounted_zero, timerTick_zero]
  | succ n ih =>
    rw [periodsPassed_succ] at hmax ⊢
    rw [timerTick_succ', ih (by omega)]
    split
    · next hdvd =>
      rw [if_pos hdvd] at hmax
      exact timerCycle_counted_of_dvd henabled hdvd hmax
    · next hdvd => exact timerCycle_counted_of_not fun h => hdvd h.2

/-- Settles O49: the counter by what every cycle does, TIMA and IF by the state that so many counting cycles leave. -/
theorem timerCountsPeriods : Obligations.TimerCountsPeriods := by
  intro s n p hp
  rw [getD_eq_tapBit] at hp
  subst hp
  refine ⟨rfl, ?counter, fun hdisabled => ?disabled, fun henabled hmax => ?enabled⟩
  case counter =>
    obtain ⟨tima, f, h⟩ := timerTick_eq n s
    rw [h]
  case disabled =>
    rw [timerTick_of_disabled hdisabled]
    exact ⟨by simp [State.timerCounted], rfl⟩
  case enabled =>
    rw [timerTick_of_enabled henabled hmax]
    exact ⟨(BitVec.toNat_ofNat _ _).trans (Nat.mod_eq_of_lt (Nat.lt_succ_of_le hmax)), rfl⟩

end Sys2Proof.Machine
end

section
/-! SUPPORT. The joypad's edge detector (60_exceptions.md R380, R381): what an update changes, and that it requests the
interrupt exactly when a bit of the exposed nibble falls. -/

namespace Sys2Proof.Machine

/-- The low nibble of P1 is what the edge detector compares. -/
theorem p1Low_getLsbD (j : Joypad) {n : Nat} (hn : n < 4) : (p1Low j).getLsbD n = (p1Read j).getLsbD n := by
  rw [p1Read, BitVec.getLsbD_append, if_pos hn]

/-- A bit falls between two nibbles. -/
theorem and_not_eq_zero_iff (prev low : BitVec 4) :
    prev &&& ~~~low = 0#4 ↔ ¬∃ n : Fin 4, prev.getLsbD n = true ∧ low.getLsbD n = false := by
  revert prev low
  decide

/-- The joypad's bit of IF is bit 4 (R353). -/
theorem or_joypadMask_getLsbD (flags : BitVec 5) : (flags ||| Source.joypad.mask).getLsbD 4 = true
    ∧ ∀ n, n < 4 → (flags ||| Source.joypad.mask).getLsbD n = flags.getLsbD n := by
  revert flags
  decide

/-- An update of the machine `s` after its selection or its buttons have become those of `j` (R381). -/
theorem joypadUpdate_spec (s : State) (j : Joypad) (hprev : j.prev = s.joypad.prev) :
    let t := joypadUpdate { s with joypad := j }
    t = { s with joypad := t.joypad, intr := { s.intr with flags := t.intr.flags } }
      ∧ (∀ n, n < 4 → t.intr.flags.getLsbD n = s.intr.flags.getLsbD n)
      ∧ t.joypad.buttons = j.buttons ∧ t.joypad.sel = j.sel ∧ t.joypad.prev = p1Low t.joypad
      ∧ t.intr.flags.getLsbD 4 = (s.intr.flags.getLsbD 4
        || decide (∃ n : Fin 4, s.joypad.prev.getLsbD n = true ∧ (p1Low t.joypad).getLsbD n = false)) := by
  have hfalls := and_not_eq_zero_iff j.prev (p1Low j)
  rw [hprev] at hfalls
  dsimp only [joypadUpdate]
  rw [hprev]
  split
  · next hnone =>
    refine ⟨rfl, fun _ _ => rfl, rfl, rfl, rfl, ?_⟩
    exact (Bool.or_false _).symm.trans (congrArg _ (decide_eq_false (hfalls.1 hnone)).symm)
  · next hsome =>
    obtain ⟨hbit, hothers⟩ := or_joypadMask_getLsbD s.intr.flags
    refine ⟨rfl, hothers, rfl, rfl, rfl, hbit.trans ?_⟩
    exact (Bool.or_true _).symm.trans (congrArg _ (decide_eq_true (not_not.1 (mt hfalls.2 hsome))).symm)

/-- Settles O51: P1 by its fields; a write and a snapshot are each an update, after the selection or the buttons. -/
theorem joypadReadAndEdge : Obligations.JoypadReadAndEdge := by
  intro s v
  refine ⟨fun n hn => p1Read_getLsbD s.joypad hn, p1Read_toNat_div s.joypad, fun n hn => p1Low_getLsbD s.joypad hn,
    joypadUpdate_spec s { s.joypad with sel := v.extractLsb' 4 2 } rfl, ?snapshot⟩
  case snapshot =>
    obtain ⟨hframe, hothers, hbuttons, hsel, hrest⟩ := joypadUpdate_spec s { s.joypad with buttons := v } rfl
    exact ⟨hframe, hothers, hsel, hbuttons, hrest⟩

end Sys2Proof.Machine
end

section
/-! SUPPORT. Decimal arithmetic (40_alu8.md R153): DAA after ADD and SUB of packed decimals. -/

namespace Sys2Proof.Machine

/-! DAA after an instruction that wrote A and the flags. -/

section
variable (s : State) (a : Byte) (z n h c : Bool) (k : Nat)

theorem carryIn_withAF : carryIn (s.withAF a (flagsOf z n h c) k) = c := by
  rw [← flagC_eq_carryIn, ← flagByte_eq_flagsOf]
  exact flagC_flagByte z n h c

theorem subIn_withAF : subIn (s.withAF a (flagsOf z n h c) k) = n := by
  rw [← flagN_eq_subIn, ← flagByte_eq_flagsOf]
  exact flagN_flagByte z n h c

theorem halfIn_withAF : halfIn (s.withAF a (flagsOf z n h c) k) = h := by
  rw [← flagH_eq_halfIn, ← flagByte_eq_flagsOf]
  exact flagH_flagByte z n h c

/-- DAA reads the result and the flags just written (R153). -/
theorem exec_daa_withAF (result : Nat) : exec .daa (s.withAF (.ofNat 8 result) (flagsOf z n h c) k) =
    let high := c || (!n && decide (result % 256 > 0x99))
    let low := h || (!n && decide (result % 256 % 16 > 9))
    let r := (if n then result % 256 + 256 - daaAdjust high low else result % 256 + daaAdjust high low) % 256
    .next ((s.withAF (.ofNat 8 result) (flagsOf z n h c) k).withAF (.ofNat 8 r)
      (flagsOf (decide (r = 0)) n false high) 4) := by
  obtain ⟨hdaa, -⟩ := daaResult (s.withAF (.ofNat 8 result) (flagsOf z n h c) k)
  rw [carryIn_withAF, subIn_withAF, halfIn_withAF] at hdaa
  exact hdaa

end

/-! Packed decimals as numbers. -/

/-- Two decimal digits, one in each nibble. -/
def bcd (n : Nat) : Nat := n / 10 * 16 + n % 10

theorem bcdByte_toNat {n : Nat} (h : n < 100) : (bcdByte n).toNat = bcd n := by
  rw [bcdByte, BitVec.toNat_ofNat, Nat.mod_eq_of_lt (by omega), bcd]

/-- The units are the low nibble. -/
theorem bcd_mod (n : Nat) : bcd n % 16 = n % 10 := by
  rw [bcd]
  omega

/-- Packed decimals have the order of their numbers. -/
theorem bcd_lt_iff {p q : Nat} : bcd p < bcd q ↔ p < q := by
  rw [bcd, bcd]
  omega

/-- After ADD, DAA corrects the low digit exactly when the units carry. -/
theorem bcd_add_low (p q : Nat) :
    (decide (bcd p % 16 + bcd q % 16 > 15) || decide ((bcd p + bcd q) % 256 % 16 > 9))
      = decide (10 ≤ p % 10 + q % 10) := by
  rw [← Bool.decide_or, decide_eq_decide, bcd, bcd]
  omega

section
variable {p q : Nat} (hp : p < 100) (hq : q < 100)
include hp hq

/-- It corrects the high digit exactly when the sum has three digits. -/
theorem bcd_add_high :
    (decide (bcd p + bcd q > 255) || decide ((bcd p + bcd q) % 256 > 0x99)) = decide (100 ≤ p + q) := by
  rw [← Bool.decide_or, decide_eq_decide, bcd, bcd]
  constructor
  · intro hhigh
    have hlarge : p / 10 * 16 + p % 10 + (q / 10 * 16 + q % 10) > 0x99 :=
      hhigh.elim (by omega) fun h => Nat.lt_of_lt_of_le h (Nat.mod_le _ _)
    omega
  · intro hsum
    omega

theorem bcd_add_adjusted :
    ((bcd p + bcd q) % 256 + daaAdjust (decide (100 ≤ p + q)) (decide (10 ≤ p % 10 + q % 10))) % 256
      = bcd ((p + q) % 100) := by
  simp only [bcd, daaAdjust, decide_eq_true_eq]
  split <;> split <;> omega

theorem bcd_sub_adjusted :
    ((bcd p + 256 - bcd q) % 256 + 256 - daaAdjust (decide (p < q)) (decide (p % 10 < q % 10))) % 256
      = bcd ((p + 100 - q) % 100) := by
  simp only [bcd, daaAdjust, decide_eq_true_eq]
  split <;> split <;> omega

end

/-- Settles O10: what DAA makes (O9) of the sum and of the difference that ADD and SUB leave (O5), digit by digit. -/
theorem daaAdjustsDecimalArithmetic : Obligations.DaaAdjustsDecimalArithmetic := by
  intro s x p q hp hq ha hx
  obtain ⟨hadd, -, hsub, -⟩ := addAdcSubSbcResult s x
  rw [ha, hx, bcdByte_toNat hp, bcdByte_toNat hq] at hadd hsub
  refine ⟨⟨_, _, hadd, exec_daa_withAF .., ?sum, ?carry⟩, ⟨_, _, hsub, exec_daa_withAF .., ?difference, ?borrow⟩⟩
  case sum =>
    simp only [Bool.not_false, Bool.true_and, Bool.false_eq_true, if_false, bcd_add_high hp hq, bcd_add_low,
      bcd_add_adjusted hp hq]
    rfl
  case carry => exact (carryIn_withAF ..).trans (bcd_add_high hp hq)
  case difference =>
    simp only [Bool.not_true, Bool.false_and, Bool.or_false, if_true, bcd_lt_iff, bcd_mod, bcd_sub_adjusted hp hq]
    rfl
  case borrow => exact (carryIn_withAF ..).trans ((Bool.or_false _).trans (decide_eq_decide.2 bcd_lt_iff))

end Sys2Proof.Machine
end

section
/-! SUPPORT. The post-boot registers (70_reset_and_hazards.md R402). -/

namespace Sys2Proof.Machine

/-- Settles O58: a launch without BOOT starts in skip-boot, whose pairs are joined from their registers. -/
theorem skipBootRegisters : Obligations.SkipBootRegisters := by
  intro l hboot
  rw [start_of_noBoot hboot]
  have hbc : joinBytes 0x00#8 0x13#8 = 0x0013#16 := by decide
  have hde : joinBytes 0x00#8 0xD8#8 = 0x00D8#16 := by decide
  have hhl : joinBytes 0x01#8 0x4D#8 = 0x014D#16 := by decide
  exact ⟨rfl, rfl, hbc, hde, hhl, rfl, rfl, rfl, rfl, rfl, rfl⟩

end Sys2Proof.Machine
end
